-- ==== Sys2Proof/Word.lean ====
section
/-! DEFINITION. The word types of the NB6240: bytes of the register window and the wider fields
that it and the stored images hold (spec R182 to R185). -/

namespace Sys2Proof

/-- A byte of the register window, of the store or of an image. -/
abbrev Byte := BitVec 8

/-- A 16-bit field: a signed limit or value, the interval, a check. -/
abbrev Word16 := BitVec 16

/-- A 24-bit field: a gate length or a breakpoint x. -/
abbrev Word24 := BitVec 24

/-- A 32-bit field: the Time Base count, a sequence number. -/
abbrev Word32 := BitVec 32

/-- One of the 128 addresses of the register window (R176). -/
abbrev Addr := BitVec 7

end Sys2Proof
end

