-- ==== Sys2Proof/Syntax.lean ====
section
/-! DEFINITION. The commands of the NB6240: one constructor of `Instr` per row of
spec/opcode_table.json, with the row's operands. -/

namespace Sys2Proof

/-- The four oscillator channels (R1). -/
inductive Channel where
  | a | b | c | d
deriving DecidableEq, Repr

/-- The three leg pins of a channel (R1). -/
inductive Leg where
  | ref | sen | aux
deriving DecidableEq, Repr

/-- What an oscillation cycle is counted from: the comparator of a channel, or the FIN input
(R1, the last column of Table 1-2). -/
inductive OscSource where
  | channel (ch : Channel)
  | fin
deriving DecidableEq, Repr

/-- An edge of the TRG line, and the TRG edge field of the scan configuration (R28, R49). -/
inductive Polarity where
  | rising | falling
deriving DecidableEq, Repr

/-- Which of the two bytes of the event clear or event enable group is written (R119, R125). -/
inductive GroupByte where
  | first | second
deriving DecidableEq, Repr

/-- The commands. A host command is the happening at the block that owns the address: the byte has
been taken whole (R177). Commands of the world and of the part's own timing stand beside them. -/
inductive Instr where
  /-- Measurement command ARM (R47, R48). -/
  | arm
  /-- Measurement command STOP (R62). -/
  | stop
  /-- Measurement command TRIGGER (R51). -/
  | trigger
  /-- Measurement command RESET SCAN (R64). -/
  | resetScan
  /-- Measurement command POP (R108). -/
  | pop
  /-- Measurement command CLEAR QUEUE (R109). -/
  | clearQueue
  /-- Measurement command COMMIT CURVE c, c the measurement argument byte held (R43, R65, R84). -/
  | commitCurve
  /-- A measurement command byte that names no command (R46). -/
  | unknownMeasurementCommand (code : Byte)
  /-- Store command LOAD ROW r, r the store argument byte held (R134, R140). -/
  | loadRow
  /-- Store command PROGRAM ROW r (R135). -/
  | programRow
  /-- Store command LOAD PROFILE p (R168). -/
  | loadProfile
  /-- Store command SAVE PROFILE p (R167). -/
  | saveProfile
  /-- Store command LOAD CURVE c (R170). -/
  | loadCurve
  /-- Store command SAVE CURVE c (R169). -/
  | saveCurve
  /-- Store command SET BOOT (R171). -/
  | setBoot
  /-- Store command ARCHIVE FLUSH (R153). -/
  | archiveFlush
  /-- Store command ARCHIVE ERASE (R159). -/
  | archiveErase
  /-- A store command byte that names no command (R142). -/
  | unknownStoreCommand (code : Byte)
  /-- A write of the last step image byte, 19h (R30). -/
  | stepWrite (v : Byte)
  /-- A write of the fifth configuration staging byte, 2Ch (R33). -/
  | configWrite (v : Byte)
  /-- A read of the first step view byte, 1Bh (R32). -/
  | stepViewLatch
  /-- A read of the first time group byte, 08h (R67). -/
  | timeLatch
  /-- A write of the fourth time group byte, 0Bh (R68). -/
  | timeSet (v : Byte)
  /-- A write of the last curve entry byte, 33h (R79). -/
  | entryWrite (v : Byte)
  /-- A write of the count byte, 34h (R80). -/
  | countWrite (v : Byte)
  /-- A read of the first curve entry byte, 2Fh (R78). -/
  | curveEntryLatch
  /-- A read of the first limit status byte, 39h (R96). -/
  | limitStatusLatch
  /-- A write of the watermark register, 3Fh (R112). -/
  | watermarkWrite (v : Byte)
  /-- A read of the first head window byte, 40h (R107). -/
  | headWindowLatch
  /-- A read of the first event flag byte, 55h (R118). -/
  | eventFlagLatch
  /-- A write to an event clear byte, 57h or 58h (R119). -/
  | eventClear (which : GroupByte) (v : Byte)
  /-- A write to an event enable byte, 59h or 5Ah (R125). -/
  | eventEnableWrite (which : GroupByte) (v : Byte)
  /-- A write to the load port, 63h (R133, R136). -/
  | loadPortWrite (v : Byte)
  /-- A write of the second read pointer byte, 65h (R138). -/
  | readPointerSet (v : Byte)
  /-- A read of the first read pointer byte, 64h (R138). -/
  | readPointerLatch
  /-- A read of the read port, 66h (R138). -/
  | readPortRead
  /-- A write of the archive control register, 6Bh (R149). -/
  | archiveControlWrite (v : Byte)
  /-- A read of the first archive status byte, 6Ch (R161). -/
  | archiveStatusLatch
  /-- A write to any other address (R178, R179). -/
  | registerWrite (a : Addr) (v : Byte)
  /-- A fall of CSN, with the level of SCK at that moment (R175). -/
  | frameStart (sckHigh : Bool)
  /-- The first whole byte of a frame (R176). -/
  | headerByte (b : Byte)
  /-- A rise of CSN (R177). -/
  | frameEnd
  /-- An edge on the TRG line (R49). -/
  | trgEdge (e : Polarity)
  /-- A change of the WP input to the given level, asserted when high (R139). -/
  | wpChange (asserted : Bool)
  /-- The part is put into full reset (R181). -/
  | fullReset
  /-- The end of a full reset begins BOOTING, and start-up carries out up to `steps` of its steps
  that are still to be done: six make all of R173 and R174. -/
  | startUp (steps : Nat)
  /-- `n` ticks of the 32.768 kHz crystal with nothing between them (R66, R52). -/
  | timeBaseTick (n : Nat)
  /-- The interval timer expires (R52). -/
  | intervalExpiry
  /-- `n` conversion clock periods with nothing between them (R5). -/
  | cclkPeriod (n : Nat)
  /-- `n` oscillation cycles of one source with nothing between them (R5, R1). -/
  | oscillationCycle (src : OscSource) (n : Nat)
  /-- The settle count is reached (R6). -/
  | settleComplete
  /-- The settle timeout (R7). -/
  | settleTimeout
  /-- The close of a TIME gate (R8). -/
  | timeGateClose
  /-- The close of a CYCLES gate (R9). -/
  | cyclesGateClose
  /-- The stall ceiling of a CYCLES gate (R10). -/
  | stallCeiling
  /-- A program attempt ends with its verdict (R131). -/
  | programAttemptEnd (pass : Bool)
deriving DecidableEq, Repr

end Sys2Proof
end

