-- ==== Sys2Proof/Config.lean ====
section
/-! DEFINITION. The constants that the NB6240 fixes (ceilings, timeouts, capacities, tags), and the
one result that the spec leaves open, a free value. -/

namespace Sys2Proof.Config

/-- Ceiling of the clock counter, and the stall ceiling of a CYCLES gate (R5, R10). -/
def clockCeiling : Nat := 16777215

/-- Ceiling of the oscillation counter (R5, R8). -/
def oscCeiling : Nat := 1048575

/-- Clock count at which SETTLE ends STALL (R7). -/
def settleTimeout : Nat := 65536

/-- Records the Result Queue can hold (R99). -/
def queueCapacity : Nat := 32

/-- Highest level at which a step may start under HOLD: at least 2 free slots (R54, R55). -/
def startLevel : Nat := 30

/-- Ticks in one unit of the interval timer (R52). -/
def ticksPerUnit : Nat := 16

/-- Largest ratio of the 8.16 form (R74). -/
def ratioMax : Nat := 16777215

/-- One in the 8.16 form: the factor of R73. -/
def ratioOne : Nat := 65536

/-- Breakpoints in every curve table (R76). -/
def curvePoints : Nat := 24

/-- The free value of log 18: the whole number that the division of R73 gives where its denominator is
0, from the clock and oscillation counts of the step and of its reference. R73 gives none there, and a
CYCLES gate that closes with the clock stopped (R15) brings it about. -/
opaque zeroDivisorQuotient : Nat → Nat → Nat → Nat → Nat

/-- Records in one staging buffer and in one archive row (R151, R154). -/
def bufferRecords : Nat := 4

/-- Tag of a profile image (Table 10-1). -/
def tagProfile : Byte := 0x5C

/-- Tag of a curve image (Table 10-1). -/
def tagCurve : Byte := 0x6C

/-- Tag of the boot record (Table 10-1). -/
def tagBoot : Byte := 0x7C

/-- Length of a profile image (R164). -/
def profileBytes : Nat := 217

end Sys2Proof.Config
end

