-- ==== Sys2Proof/Machine/State.lean ====
section
/-! DEFINITION. The state of the NB6240, block by block as the spec's tables list it, the state
right after a full reset, and the (empty) kinds of fault and refusal. -/

namespace Sys2Proof.Machine

/-! ## Conversion Unit (chapter 1) -/

/-- One of the 13 paths: a leg of a channel, or EXT (Table 1-2). -/
inductive MeasPath where
  | leg (ch : Channel) (l : Leg)
  | ext
deriving DecidableEq, Repr

/-- Which count closes the gate (Table 1-3). -/
inductive GateMode where
  | time | cycles
deriving DecidableEq, Repr

/-- Phase of the conversion (Table 1-3). -/
inductive CuPhase where
  | off | settle | gate
deriving DecidableEq, Repr

/-- The Conversion Unit state record (Table 1-3). -/
structure ConversionUnit where
  state : CuPhase
  path : MeasPath
  gateMode : GateMode
  gateLength : Nat
  settleCount : Nat
  settleCounter : Nat
  clockCounter : Nat
  oscCounter : Nat
  /-- The leg currently driven, if any (R2). -/
  energized : Option (Channel × Leg)
deriving DecidableEq, Repr

/-- Outcome of a conversion (Table 1-4). -/
inductive ConvOutcome where
  | good | over | dead | stall
deriving DecidableEq, Repr

/-- What the Conversion Unit hands to the Scan Controller (R11). -/
structure ConvResult where
  outcome : ConvOutcome
  clock : Nat
  osc : Nat
  stamp : Word32
deriving DecidableEq, Repr

/-! ## Scan Plan (chapter 2) -/

/-- Report policy of a step (R26). -/
inductive ReportPolicy where
  | all | limitOnly | none
deriving DecidableEq, Repr

/-- A step entry (Table 2-1). -/
structure StepEntry where
  enabled : Bool
  path : MeasPath
  gateMode : GateMode
  gateLength : Word24
  settle : Byte
  pair : Option (Fin 16)
  curve : Option (Fin 4)
  limits : Bool
  filter : Nat
  low : Word16
  high : Word16
  report : ReportPolicy
  archive : Bool
deriving DecidableEq, Repr

/-- Whether the Scan Controller goes on after a scan (Table 2-2). -/
inductive RepeatMode where
  | oneShot | repeating
deriving DecidableEq, Repr

/-- What becomes of a record that the queue cannot hold (Table 2-2). -/
inductive QueuePolicy where
  | hold | drop
deriving DecidableEq, Repr

/-- The scan configuration record (Table 2-2). The three trigger sources are three members of the
set. -/
structure ScanConfig where
  line : Bool
  interval : Bool
  immediate : Bool
  edge : Polarity
  repeatMode : RepeatMode
  units : Word16
  policy : QueuePolicy
deriving DecidableEq, Repr

/-- The Scan Plan: table, configuration, staging windows and step view (R21 to R33). -/
structure ScanPlan where
  entries : Vector StepEntry 16
  config : ScanConfig
  stepIndex : Byte
  stepStage : Vector Byte 13
  viewIndex : Byte
  viewCopy : Vector Byte 13
  configStage : Vector Byte 5
deriving DecidableEq, Repr

/-! ## Scan Controller and Time Base (chapter 3) -/

/-- Sub-state of RUNNING (Table 3-1). -/
inductive SubState where
  | waitSpace | converting
deriving DecidableEq, Repr

/-- Scan state; sub-state and scan begun exist in RUNNING only (Table 3-1). -/
inductive ScanState where
  | stopped
  | armed
  | running (sub : SubState) (begun : Bool)
deriving DecidableEq, Repr

/-- A running interval timer (R52). -/
structure IntervalTimer where
  /-- Units remaining. -/
  units : Nat
  /-- Tick phase. -/
  phase : Nat
  /-- The model's own field: expiries whose trigger the Scan Controller has not taken yet (log 5). -/
  expired : Nat
deriving DecidableEq, Repr

/-- The measurement commands (Table 3-3). -/
inductive MeasCommand where
  | arm | stop | trigger | resetScan | pop | clearQueue | commitCurve
deriving DecidableEq, Repr

/-- Outcomes of the status records (Tables 3-4 and 8-4). -/
inductive CmdOutcome where
  | ok | state | locked | invalid | range | unknown | busy | prot | checkFail | verifyFail
deriving DecidableEq, Repr

/-- The last command of the measurement command status record (R44). -/
inductive MeasLast where
  | none
  | command (c : MeasCommand)
  | stepWrite
  | configWrite
  | raw (code : Byte)
deriving DecidableEq, Repr

/-- The measurement command status record (R44). -/
structure MeasStatus where
  last : MeasLast
  outcome : CmdOutcome
  detail : Byte
deriving DecidableEq, Repr

/-- The Scan Controller state record (Table 3-1) and the measurement argument byte (R43). -/
structure ScanController where
  state : ScanState
  current : Option (Fin 16)
  scanNumber : Byte
  pending : Bool
  fromLatch : Bool
  late : Bool
  converted : Nat
  faulted : Nat
  /-- The interval timer; none is stopped. -/
  timer : Option IntervalTimer
  argument : Byte
  status : MeasStatus
deriving DecidableEq, Repr

/-- The Time Base: count, read copy, staging bytes (R66 to R68). -/
structure TimeBase where
  count : Word32
  copy : Word32
  stage : Vector Byte 4
deriving DecidableEq, Repr

/-! ## Ratio and Curve Unit (chapter 4) -/

/-- A period slot (R69). -/
structure PeriodSlot where
  valid : Bool
  clock : Nat
  osc : Nat
deriving DecidableEq, Repr

/-- A breakpoint: x a ratio in the 8.16 form, y a signed value (R76). -/
structure Breakpoint where
  x : Word24
  y : Word16
deriving DecidableEq, Repr

/-- A curve table (R76). -/
structure Curve where
  count : Nat
  points : Vector Breakpoint 24
  valid : Bool
deriving DecidableEq, Repr

/-- The last edit of the curve edit status record (R81). -/
inductive EditLast where
  | none | entryWrite | countWrite
deriving DecidableEq, Repr

/-- The curve edit status record (R81). -/
structure EditStatus where
  last : EditLast
  outcome : CmdOutcome
  detail : Byte
deriving DecidableEq, Repr

/-- The Ratio and Curve Unit: slots, curves and the curve entry window (R69, R76, R78, R81). -/
structure RatioCurve where
  slots : Vector PeriodSlot 16
  curves : Vector Curve 4
  select : Byte
  index : Byte
  entryStage : Vector Byte 5
  countStage : Byte
  entryCopy : Vector Byte 5
  editStatus : EditStatus
deriving DecidableEq, Repr

/-! ## Limit Watch (chapter 5) -/

/-- A class of values (R90). -/
inductive LimitClass where
  | inside | below | above
deriving DecidableEq, Repr

/-- A limit state: UNKNOWN, or a class (Table 5-1). -/
inductive LimitState where
  | unknown
  | settled (c : LimitClass)
deriving DecidableEq, Repr

/-- A limit record (Table 5-1). -/
structure LimitRecord where
  state : LimitState
  candidate : Option LimitClass
  count : Nat
deriving DecidableEq, Repr

/-- The Limit Watch: records and the read copy of the states (R88, R96). -/
structure LimitWatch where
  records : Vector LimitRecord 16
  copy : Vector LimitState 16
deriving DecidableEq, Repr

/-! ## Result Queue (chapter 6) -/

/-- What a MEASUREMENT record and an archive record share (Tables 6-2 and 9-2). An optional field
is present exactly when its presence flag is set (R100); OVER, DEAD and STALL are the outcome
(R101). -/
structure ResultBody where
  scan : Byte
  step : Fin 16
  stamp : Word32
  outcome : ConvOutcome
  sat : Bool
  clampLow : Bool
  clampHigh : Bool
  pairInvalid : Bool
  late : Bool
  ratio : Option Nat
  value : Option Int
  limit : Option LimitState
deriving DecidableEq, Repr

/-- How a scan ended (Table 6-4). -/
inductive EndStatus where
  | complete | stopped
deriving DecidableEq, Repr

/-- A record of the Result Queue (Tables 6-2 and 6-4); `gap` is GAP_BEFORE. -/
inductive Record where
  | measurement (gap : Bool) (body : ResultBody) (clock osc : Nat)
  | scanEnd (gap late : Bool) (scan : Byte) (status : EndStatus) (converted faulted : Nat)
      (stamp : Word32)
deriving DecidableEq, Repr

/-- The Result Queue (Table 6-1); the level is the number of records. -/
structure ResultQueue where
  records : List Record
  gapPending : Bool
  watermark : Nat
  /-- The head window copy; none is EMPTY (R107). -/
  headCopy : Option Record
deriving DecidableEq, Repr

/-! ## Event Block (chapter 7) -/

/-- The eleven event flags, in the order of Table 7-1. -/
inductive EventFlag where
  | scanEnd | watermark | queueDrop | limit | overrun | convFault | cmdReject | storeDone
  | archiveLost | archiveFull | bootFault
deriving DecidableEq, Repr

/-- The Event Block: flags, enable mask and the read copy of the flags, each with bit k for the
k-th flag of Table 7-1 (R116, R118, R125). -/
structure EventBlock where
  flags : BitVec 11
  enable : BitVec 11
  copy : BitVec 11
deriving DecidableEq, Repr

/-! ## Nonvolatile Store (chapters 8 and 10) -/

/-- The store's bytes as (address, byte) pairs, addresses strictly rising, no byte equal to FFh. -/
abbrev Memory := List Host.Cell

/-- The 64 bytes of a row. -/
abbrev RowImage := Vector Byte 64

/-- The two claimants of the program engine (R146). -/
inductive Claimant where
  | host | archive
deriving DecidableEq, Repr

/-- The program engine state record (Table 8-2); `second` is attempt 2. -/
structure Engine where
  busy : Bool
  row : Fin 64
  owner : Claimant
  second : Bool
  image : RowImage
deriving DecidableEq, Repr

/-- How the image of a claim is formed: fixed when the claim is made, or the merge of PROGRAM ROW,
formed when the cycle starts (R135, R146). -/
inductive ClaimImage where
  | fixed (image : RowImage)
  | merge
deriving DecidableEq, Repr

/-- A claim at the arbiter (R146). -/
structure Claim where
  row : Fin 64
  image : ClaimImage
deriving DecidableEq, Repr

/-- The host page buffer (R133). -/
structure PageBuffer where
  data : Vector Byte 64
  loaded : Vector Bool 64
  pointer : Fin 64
deriving DecidableEq, Repr

/-- The store commands (Table 8-3). -/
inductive StoreCommand where
  | loadRow | programRow | loadProfile | saveProfile | loadCurve | saveCurve | setBoot
  | archiveFlush | archiveErase
deriving DecidableEq, Repr

/-- The command field of the store command status record (R141). -/
inductive StoreLast where
  | none
  | command (c : StoreCommand)
  | raw (code : Byte)
deriving DecidableEq, Repr

/-- Phase of the store command path (R141). -/
inductive StorePhase where
  | idle | inProgress
deriving DecidableEq, Repr

/-- The store command status record (R141). -/
structure StoreStatus where
  phase : StorePhase
  last : StoreLast
  outcome : CmdOutcome
  detail : Byte
deriving DecidableEq, Repr

/-- The long command in progress on the host's road: the command, its argument, the row it has
claimed, and the rows it has still to claim with their images, fixed at acceptance (R144, R167). -/
structure HostRoad where
  command : StoreCommand
  argument : Byte
  row : Fin 64
  rest : List (Fin 64 × RowImage)
deriving DecidableEq, Repr

/-- The Nonvolatile Store with its engine, arbiter, page buffer, read port, command register and
boot staging registers (R127 to R147, R166). -/
structure Store where
  cells : Memory
  /-- The completion mark of each row; true is COMPLETE (R128). -/
  complete : Vector Bool 64
  engine : Engine
  hostClaim : Option Claim
  archiveClaim : Option Claim
  page : PageBuffer
  readPointer : BitVec 12
  readStage : Vector Byte 2
  readCopy : BitVec 12
  argument : Byte
  status : StoreStatus
  road : Option HostRoad
  bootStage : Vector Byte 4
deriving DecidableEq, Repr

/-! ## Archive Unit (chapter 9) -/

/-- Archive mode (Table 9-1). -/
inductive ArchiveMode where
  | off | wrap | fill
deriving DecidableEq, Repr

/-- An ARCHIVE ERASE in progress: the row of its current claim (none while it waits for the archive
cycle that was running to end) and the first row that failed (R159). -/
structure EraseRun where
  row : Option (Fin 64)
  failedRow : Option (Fin 64)
deriving DecidableEq, Repr

/-- The Archive Unit (Table 9-1). One buffer is FILLING; the other is COMMITTED with the records of
`committed`, or FREE when it is none. -/
structure ArchiveUnit where
  mode : ArchiveMode
  flushAtEnd : Bool
  full : Bool
  fillingIndex : Fin 2
  filling : List ResultBody
  committed : Option (List ResultBody)
  flushPending : Bool
  failedOnce : Bool
  writePointer : Fin 64
  nextSeq : Word32
  erase : Option EraseRun
  copy : Vector Byte 7
deriving DecidableEq, Repr

/-! ## Port and lines (chapter 11) -/

/-- SPI clock mode of a frame (R175). -/
inductive ClockMode where
  | mode0 | mode3
deriving DecidableEq, Repr

/-- Direction of a frame (R176). -/
inductive Direction where
  | read | write
deriving DecidableEq, Repr

/-- The frame in hand. -/
inductive Frame where
  /-- CSN is high. -/
  | idle
  /-- CSN has fallen and the header byte is awaited (R175). -/
  | header (mode : ClockMode)
  /-- Data bytes of one direction; the next one belongs to the address (R176). -/
  | data (mode : ClockMode) (dir : Direction) (addr : Addr)
  /-- CSN is low and the frame is ignored, since it met a full reset (R180). -/
  | ignored
deriving DecidableEq, Repr

/-- The port: the frame in hand and the SDO line (section 11.1). -/
structure Port where
  frame : Frame
  /-- The byte that SDO is driven with in a data byte of a read frame; none is high impedance
  (R175, R177). -/
  sdo : Option Byte
deriving DecidableEq, Repr

/-- Levels of the input lines: TRG, and WP (asserted or not). -/
structure Pins where
  trg : Bool
  wp : Bool
deriving DecidableEq, Repr

/-- The four choices of the boot record (R166, R173). -/
structure BootChoices where
  profile : Option (Fin 4)
  autostart : Bool
  mode : ArchiveMode
  flush : Bool
deriving DecidableEq, Repr

/-- Progress of start-up (R173, R174). -/
structure BootProgress where
  /-- Number of steps done. -/
  stage : Nat
  /-- Step 1 found row 63 newest. -/
  newest63 : Bool
  /-- The choices of step 3. -/
  choices : BootChoices
  /-- Autostart as read in step 3 and not cancelled in step 4. -/
  autostart : Bool
deriving DecidableEq, Repr

/-- Whether the part is held in full reset, BOOTING, or in service (R173, R180). -/
inductive Power where
  | held
  | booting (b : BootProgress)
  | running
deriving DecidableEq, Repr

/-- The whole part, and the queue of the commands that are waiting. -/
structure State where
  power : Power
  port : Port
  pins : Pins
  cu : ConversionUnit
  plan : ScanPlan
  sc : ScanController
  tb : TimeBase
  rcu : RatioCurve
  lw : LimitWatch
  rq : ResultQueue
  ev : EventBlock
  nvs : Store
  au : ArchiveUnit
  pending : List Instr
deriving DecidableEq, Repr

/-- Nothing faults: the spec gives every command an effect or an answer in a status record, so this
type has no constructor. -/
inductive Fault where
deriving DecidableEq, Repr

/-- Reasons to give a command no meaning. -/
inductive Refusal where
  /-- Answered by `exec`'s arm of a command that has no meaning yet; safe (the model stops). No arm
  answers it: every command has its meaning. -/
  | notModelled (mnemonic : String)
deriving DecidableEq, Repr

/-! ## The state right after a full reset -/

/-- A step entry at its reset values (Table 2-1). -/
def resetEntry : StepEntry where
  enabled := false
  path := .leg .a .ref
  gateMode := .time
  gateLength := 256
  settle := 0
  pair := none
  curve := none
  limits := false
  filter := 1
  low := 0x8000
  high := 0x7FFF
  report := .all
  archive := false

/-- The image of an entry at its reset values (R185). -/
def resetStepImage : Vector Byte 13 :=
  #v[0x00, 0x00, 0x00, 0x01, 0x00, 0x00, 0xFF, 0xFF, 0x01, 0x00, 0x80, 0xFF, 0x7F]

/-- The scan configuration at its reset values (Table 2-2). -/
def resetConfig : ScanConfig where
  line := false
  interval := false
  immediate := false
  edge := .rising
  repeatMode := .oneShot
  units := 64
  policy := .hold

/-- A limit record after a full reset, ARM or RESET SCAN (Table 5-1). -/
def resetLimitRecord : LimitRecord where
  state := .unknown
  candidate := none
  count := 0

/-- An empty period slot (R69). -/
def emptySlot : PeriodSlot where
  valid := false
  clock := 0
  osc := 0

/-- A curve at its reset values (R76). -/
def resetCurve : Curve where
  count := 0
  points := Vector.replicate 24 ⟨0, 0⟩
  valid := false

/-- The image of a blank row. -/
def blankImage : RowImage := Vector.replicate 64 0xFF

/-- The defaults of the boot record (R173). -/
def defaultChoices : BootChoices where
  profile := none
  autostart := false
  mode := .off
  flush := false

/-- The part held in a full reset, every field at its reset value, the store as delivered (R127),
the lines at the levels of log 11, and no command waiting. -/
def State.reset : State where
  power := .held
  port := { frame := .idle, sdo := none }
  pins := { trg := false, wp := false }
  cu :=
    { state := .off, path := .leg .a .ref, gateMode := .time, gateLength := 256, settleCount := 0,
      settleCounter := 0, clockCounter := 0, oscCounter := 0, energized := none }
  plan :=
    { entries := Vector.replicate 16 resetEntry, config := resetConfig, stepIndex := 0,
      stepStage := resetStepImage, viewIndex := 0, viewCopy := resetStepImage,
      configStage := #v[0x00, 0x00, 0x00, 0x40, 0x00] }
  sc :=
    { state := .stopped, current := none, scanNumber := 0, pending := false, fromLatch := false,
      late := false, converted := 0, faulted := 0, timer := none, argument := 0,
      status := { last := .none, outcome := .ok, detail := 0 } }
  tb := { count := 0, copy := 0, stage := Vector.replicate 4 0 }
  rcu :=
    { slots := Vector.replicate 16 emptySlot, curves := Vector.replicate 4 resetCurve,
      select := 0, index := 0, entryStage := Vector.replicate 5 0, countStage := 0,
      entryCopy := Vector.replicate 5 0,
      editStatus := { last := .none, outcome := .ok, detail := 0 } }
  lw :=
    { records := Vector.replicate 16 resetLimitRecord, copy := Vector.replicate 16 .unknown }
  rq := { records := [], gapPending := false, watermark := 16, headCopy := none }
  ev := { flags := 0, enable := 0, copy := 0 }
  nvs :=
    { cells := [], complete := Vector.replicate 64 true,
      engine := { busy := false, row := 0, owner := .archive, second := false,
                  image := blankImage },
      hostClaim := none, archiveClaim := none,
      page := { data := Vector.replicate 64 0xFF, loaded := Vector.replicate 64 false,
                pointer := 0 },
      readPointer := 0, readStage := Vector.replicate 2 0, readCopy := 0, argument := 0,
      status := { phase := .idle, last := .none, outcome := .ok, detail := 0 },
      road := none, bootStage := #v[0xFF, 0x00, 0x00, 0x00] }
  au :=
    { mode := .off, flushAtEnd := false, full := false, fillingIndex := 0, filling := [],
      committed := none, flushPending := false, failedOnce := false, writePointer := 32,
      nextSeq := 1, erase := none, copy := #v[0x00, 0x00, 0x20, 0x01, 0x00, 0x00, 0x00] }
  pending := []

end Sys2Proof.Machine
end

