-- ==== Sys2Proof/Machine/Flags.lean ====
section
/-! DEFINITION. Event flags, the watermark condition and the ATN line (chapters 6 and 7). -/

namespace Sys2Proof.Machine

/-- The bit of a flag in the event groups, the second byte's bits counting on from 8
(Table 12-5). -/
def flagPos : EventFlag → Nat
  | .scanEnd => 0
  | .watermark => 1
  | .queueDrop => 2
  | .limit => 3
  | .overrun => 4
  | .convFault => 5
  | .cmdReject => 6
  | .storeDone => 7
  | .archiveLost => 8
  | .archiveFull => 9
  | .bootFault => 10

/-- The word with the bit of one flag. -/
def flagBit (f : EventFlag) : BitVec 11 := BitVec.twoPow 11 (flagPos f)

/-- Whether a flag is set. -/
def flagSet (s : State) (f : EventFlag) : Bool := s.ev.flags.getLsbD (flagPos f)

/-- A producer raises a flag (R117). -/
def raise (f : EventFlag) (s : State) : State :=
  { s with ev.flags := s.ev.flags ||| flagBit f }

/-- A flag is raised when a condition holds. -/
def raiseIf (c : Bool) (f : EventFlag) (s : State) : State := if c then raise f s else s

/-- The level of the Result Queue (R99). -/
def level (s : State) : Nat := s.rq.records.length

/-- The watermark condition (R112). -/
def watermarkHolds (s : State) : Bool := decide (s.rq.watermark ≤ level s)

/-- The watermark condition is re-evaluated and keeps WATERMARK set while it holds (R112, R121). -/
def watermarkEval (s : State) : State := raiseIf (watermarkHolds s) .watermark s

/-- The flags named by a byte of an event group (Table 12-5). -/
def groupWord : GroupByte → Byte → BitVec 11
  | .first, v => v.setWidth 11
  | .second, v => v.setWidth 11 <<< 8

/-- The places of a byte of an event group. -/
def groupMask (g : GroupByte) : BitVec 11 := groupWord g 0xFF

/-- A host clear of the flags whose bits are set; WATERMARK only while its condition does not hold
(R119, R121). -/
def clearFlags (w : BitVec 11) (s : State) : State :=
  let w' := if watermarkHolds s then w &&& ~~~ flagBit .watermark else w
  { s with ev.flags := s.ev.flags &&& ~~~ w' }

/-- A write of one byte of the enable mask (R125). -/
def writeEnable (g : GroupByte) (v : Byte) (s : State) : State :=
  { s with ev.enable := (s.ev.enable &&& ~~~ groupMask g) ||| groupWord g v }

/-- Byte `k` of an event group. -/
def groupByteOf (w : BitVec 11) : GroupByte → Byte
  | .first => w.setWidth 8
  | .second => (w >>> 8).setWidth 8

/-- ATN is asserted exactly while a flag is both set and enabled (R126). -/
def atnAsserted (s : State) : Bool := decide (s.ev.flags &&& s.ev.enable ≠ 0)

end Sys2Proof.Machine
end

