-- ==== Sys2Proof/Machine/Operands.lean ====
section
/-! DEFINITION. Codings of fields and byte layouts (chapter 12): decoding and building of step
images, configuration images, records, archive rows and stored images. -/

namespace Sys2Proof.Machine

/-! ## Bytes -/

/-- The `n` bytes of a field, least significant byte first (R182). -/
def leBytes {w : Nat} (n : Nat) (x : BitVec w) : List Byte :=
  (List.range n).map fun i => (x >>> (8 * i)).setWidth 8

/-- The value of bytes held least significant byte first (R182). -/
def leValue : List Byte → Nat
  | [] => 0
  | b :: bs => b.toNat + 256 * leValue bs

/-- A list of bytes as a vector: cut at `n`, and filled up with `pad`. -/
def bytesVec (n : Nat) (pad : Byte) (l : List Byte) : Vector Byte n :=
  Vector.ofFn fun i => l.getD i pad

/-- The bit of a yes/no field (Table 12-1). -/
def flagByte (b : Bool) : Byte := if b then 1 else 0

/-- The sixteen step indices in increasing order. -/
def stepIndices : List (Fin 16) := [0, 1, 2, 3, 4, 5, 6, 7, 8, 9, 10, 11, 12, 13, 14, 15]

/-- The step index that a byte names, if it names one. -/
def asStep (b : Byte) : Option (Fin 16) :=
  if h : b.toNat < 16 then some ⟨b.toNat, h⟩ else none

/-- The curve number that a byte names, if it names one. -/
def asCurve (b : Byte) : Option (Fin 4) :=
  if h : b.toNat < 4 then some ⟨b.toNat, h⟩ else none

/-- The row number that a byte names, if it names one. -/
def asRow (b : Byte) : Option (Fin 64) :=
  if h : b.toNat < 64 then some ⟨b.toNat, h⟩ else none

/-! ## Codes of fields (Table 12-1) -/

/-- Code of a channel's first path. -/
def channelCode : Channel → Byte
  | .a => 0
  | .b => 3
  | .c => 6
  | .d => 9

/-- Place of a leg among the paths of its channel. -/
def legCode : Leg → Byte
  | .ref => 0
  | .sen => 1
  | .aux => 2

/-- Code of a path. -/
def pathCode : MeasPath → Byte
  | .leg ch l => channelCode ch + legCode l
  | .ext => 0x0C

/-- The 13 paths in the order of their codes (R1). -/
def allPaths : List MeasPath :=
  [.leg .a .ref, .leg .a .sen, .leg .a .aux, .leg .b .ref, .leg .b .sen, .leg .b .aux,
   .leg .c .ref, .leg .c .sen, .leg .c .aux, .leg .d .ref, .leg .d .sen, .leg .d .aux, .ext]

/-- The path that a code names. -/
def decodePath (b : Byte) : Option MeasPath := allPaths[b.toNat]?

/-- Code of a gate mode. -/
def gateModeCode : GateMode → BitVec 2
  | .time => 0
  | .cycles => 1

/-- The gate mode that a code names; 2 and 3 fail. -/
def decodeGateMode (b : BitVec 2) : Option GateMode :=
  if b = 0 then some .time else if b = 1 then some .cycles else none

/-- Code of a report policy. -/
def reportCode : ReportPolicy → BitVec 2
  | .all => 0
  | .limitOnly => 1
  | .none => 2

/-- The report policy that a code names; 3 fails. -/
def decodeReport (b : BitVec 2) : Option ReportPolicy :=
  if b = 0 then some .all else if b = 1 then some .limitOnly
  else if b = 2 then some .none else none

/-- Code of a pair reference. -/
def pairCode : Option (Fin 16) → Byte
  | some k => BitVec.ofNat 8 k
  | none => 0xFF

/-- The pair reference that a code names in the image of entry `j`: NONE, or an index below `j`
(Table 2-3). -/
def decodePair (j : Fin 16) (b : Byte) : Option (Option (Fin 16)) :=
  if b = 0xFF then some none
  else match asStep b with
    | some k => if k < j then some (some k) else none
    | none => none

/-- Code of a curve field. -/
def curveCode : Option (Fin 4) → Byte
  | some c => BitVec.ofNat 8 c
  | none => 0xFF

/-- The curve field that a code names. -/
def decodeCurve (b : Byte) : Option (Option (Fin 4)) :=
  if b = 0xFF then some none
  else match asCurve b with
    | some c => some (some c)
    | none => none

/-- Code of a limit state. -/
def limitCode : LimitState → BitVec 2
  | .unknown => 0
  | .settled .inside => 1
  | .settled .below => 2
  | .settled .above => 3

/-- Code of an archive mode. -/
def archiveModeCode : ArchiveMode → BitVec 2
  | .off => 0
  | .wrap => 1
  | .fill => 2

/-- The archive mode that the two low bits of the archive control register name; 3 fails. -/
def decodeArchiveMode (b : BitVec 2) : Option ArchiveMode :=
  if b = 0 then some .off else if b = 1 then some .wrap
  else if b = 2 then some .fill else none

/-- The archive mode that a byte of the boot record names. -/
def decodeArchiveByte (b : Byte) : Option ArchiveMode :=
  if b.toNat < 4 then decodeArchiveMode (b.setWidth 2) else none

/-- The yes/no field that a byte of its own holds: 00h or 01h. -/
def decodeFlagByte (b : Byte) : Option Bool :=
  if b = 0 then some false else if b = 1 then some true else none

/-- The boot profile that a byte names. -/
def decodeBootProfile (b : Byte) : Option (Option (Fin 4)) := decodeCurve b

/-- Codes of the outcomes (Table 12-3). -/
def outcomeCode : CmdOutcome → Byte
  | .ok => 0x00
  | .state => 0x01
  | .locked => 0x02
  | .invalid => 0x03
  | .range => 0x04
  | .unknown => 0x05
  | .busy => 0x06
  | .prot => 0x07
  | .checkFail => 0x08
  | .verifyFail => 0x09

/-- Codes of the measurement commands (Table 12-3). -/
def measCode : MeasCommand → Byte
  | .arm => 0x01
  | .stop => 0x02
  | .trigger => 0x03
  | .resetScan => 0x04
  | .pop => 0x05
  | .clearQueue => 0x06
  | .commitCurve => 0x07

/-- The measurement command that a code names. -/
def decodeMeas (b : Byte) : Option MeasCommand :=
  [MeasCommand.arm, .stop, .trigger, .resetScan, .pop, .clearQueue, .commitCurve].find?
    fun c => measCode c = b

/-- Codes of the store commands (Table 12-3). -/
def storeCode : StoreCommand → Byte
  | .loadRow => 0x21
  | .programRow => 0x22
  | .loadProfile => 0x23
  | .saveProfile => 0x24
  | .loadCurve => 0x25
  | .saveCurve => 0x26
  | .setBoot => 0x27
  | .archiveFlush => 0x28
  | .archiveErase => 0x29

/-- The store command that a code names. -/
def decodeStore (b : Byte) : Option StoreCommand :=
  [StoreCommand.loadRow, .programRow, .loadProfile, .saveProfile, .loadCurve, .saveCurve,
   .setBoot, .archiveFlush, .archiveErase].find? fun c => storeCode c = b

/-- Code of the last command in the measurement command status record. -/
def measLastCode : MeasLast → Byte
  | .none => 0x00
  | .command c => measCode c
  | .stepWrite => 0x10
  | .configWrite => 0x11
  | .raw code => code

/-- Code of the last command in the store command status record. -/
def storeLastCode : StoreLast → Byte
  | .none => 0x00
  | .command c => storeCode c
  | .raw code => code

/-- Code of the last edit (R182). -/
def editLastCode : EditLast → Byte
  | .none => 0x00
  | .entryWrite => 0x01
  | .countWrite => 0x02

/-- Code of the phase (R183). -/
def phaseCode : StorePhase → Byte
  | .idle => 0x00
  | .inProgress => 0x01

/-! ## Step images (Table 12-9) -/

/-- Whether a gate length lies in the range of its mode (Table 2-3). -/
def gateLengthOk : GateMode → Word24 → Bool
  | .time, n => decide (256 ≤ n.toNat)
  | .cycles, n => decide (16 ≤ n.toNat ∧ n.toNat ≤ 1048575)

/-- The control byte of a step image. -/
def controlByte (e : StepEntry) : Byte :=
  flagByte e.enabled ||| ((gateModeCode e.gateMode).setWidth 8 <<< 1)
    ||| (flagByte e.limits <<< 3) ||| (flagByte e.archive <<< 4)
    ||| ((reportCode e.report).setWidth 8 <<< 5)

/-- The 13 bytes of an entry (Table 12-9). -/
def stepBytes (e : StepEntry) : List Byte :=
  [controlByte e, pathCode e.path] ++ leBytes 3 e.gateLength
    ++ [e.settle, pairCode e.pair, curveCode e.curve, BitVec.ofNat 8 e.filter]
    ++ leBytes 2 e.low ++ leBytes 2 e.high

/-- The image of an entry. -/
def stepImage (e : StepEntry) : Vector Byte 13 := bytesVec 13 0 (stepBytes e)

/-- The entry that an image holds, when it passes the range check for index `j` (R31,
Table 2-3). -/
def decodeStep (j : Fin 16) (img : Vector Byte 13) : Option StepEntry :=
  let c : Byte := img[0]
  let len : Word24 := BitVec.ofNat 24 (leValue [img[2], img[3], img[4]])
  let low : Word16 := BitVec.ofNat 16 (leValue [img[9], img[10]])
  let high : Word16 := BitVec.ofNat 16 (leValue [img[11], img[12]])
  let filter : Nat := img[8].toNat
  match decodePath img[1], decodeGateMode (c.extractLsb' 1 2), decodeReport (c.extractLsb' 5 2),
      decodePair j img[6], decodeCurve img[7] with
  | some path, some mode, some report, some pair, some curve =>
    if gateLengthOk mode len && decide (1 ≤ filter) && decide (filter ≤ 15)
        && decide (low.toInt ≤ high.toInt) then
      some { enabled := c.getLsbD 0, path := path, gateMode := mode, gateLength := len,
             settle := img[5], pair := pair, curve := curve, limits := c.getLsbD 3,
             filter := filter, low := low, high := high, report := report,
             archive := c.getLsbD 4 }
    else none
  | _, _, _, _, _ => none

/-! ## Scan configuration (Table 12-10) -/

/-- The five bytes of a configuration. -/
def configBytes (g : ScanConfig) : List Byte :=
  [flagByte g.line ||| (flagByte g.interval <<< 1) ||| (flagByte g.immediate <<< 2),
   flagByte (g.edge = .falling),
   flagByte (g.repeatMode = .repeating) ||| (flagByte (g.policy = .drop) <<< 1)]
    ++ leBytes 2 g.units

/-- The configuration staging image of a configuration. -/
def configImage (g : ScanConfig) : Vector Byte 5 := bytesVec 5 0 (configBytes g)

/-- The configuration that five bytes hold, when every field decodes (R33, Table 12-1). -/
def decodeConfig (img : Vector Byte 5) : Option ScanConfig :=
  let src : Byte := img[0]
  let rq : Byte := img[2]
  let units : Word16 := BitVec.ofNat 16 (leValue [img[3], img[4]])
  if decide (src.toNat < 8) && decide (img[1].toNat < 2) && decide (rq.toNat < 4)
      && decide (units ≠ 0) then
    some { line := src.getLsbD 0, interval := src.getLsbD 1, immediate := src.getLsbD 2,
           edge := if img[1] = 0 then .rising else .falling,
           repeatMode := if rq.getLsbD 0 then .repeating else .oneShot,
           policy := if rq.getLsbD 1 then .drop else .hold,
           units := units }
  else none

/-! ## Records (Tables 12-2, 12-7, 12-8) -/

/-- The two flag bytes of a result, as one word (Table 12-2). -/
def flagWord (gap : Bool) (b : ResultBody) : Word16 :=
  BitVec.ofBoolListLE
    [b.outcome = .over, b.outcome = .dead, b.outcome = .stall, b.sat, b.clampLow, b.clampHigh,
     b.pairInvalid, gap, b.late, b.ratio.isSome, b.value.isSome, b.limit.isSome,
     false, false, false, false]

/-- The flags of a SCAN_END record: GAP_BEFORE and LATE alone. -/
def scanEndFlagWord (gap late : Bool) : Word16 :=
  BitVec.ofBoolListLE
    [false, false, false, false, false, false, false, gap, late, false, false, false,
     false, false, false, false]

/-- The three bytes of a ratio, or 00h in each when it is absent. -/
def ratioBytes (r : Option Nat) : List Byte := leBytes 3 (BitVec.ofNat 24 (r.getD 0))

/-- The two bytes of a value, or 00h in each when it is absent. -/
def valueBytes (v : Option Int) : List Byte := leBytes 2 (BitVec.ofInt 16 (v.getD 0))

/-- The byte of a limit state, or 00h when it is absent. -/
def limitByte (l : Option LimitState) : Byte := (limitCode (l.getD .unknown)).setWidth 8

/-- Code of an end status. -/
def endStatusCode : EndStatus → Byte
  | .complete => 0x01
  | .stopped => 0x02

/-- The 21 bytes of the head window for a record, or for EMPTY (R107, Table 12-7). -/
def headBytes : Option Record → List Byte
  | none => List.replicate 21 0
  | some (.measurement gap b clock osc) =>
    [0x01] ++ leBytes 2 (flagWord gap b) ++ [b.scan, BitVec.ofNat 8 b.step] ++ leBytes 4 b.stamp
      ++ leBytes 3 (BitVec.ofNat 24 clock) ++ leBytes 3 (BitVec.ofNat 24 osc)
      ++ ratioBytes b.ratio ++ valueBytes b.value ++ [limitByte b.limit]
  | some (.scanEnd gap late scan status converted faulted stamp) =>
    [0x02] ++ leBytes 2 (scanEndFlagWord gap late) ++ [scan, endStatusCode status]
      ++ leBytes 4 stamp ++ [BitVec.ofNat 8 converted, BitVec.ofNat 8 faulted]
      ++ List.replicate 10 0

/-- The 14 bytes of an archive record; GAP_BEFORE is always clear (R150, Table 12-8). -/
def archiveRecordBytes (b : ResultBody) : List Byte :=
  [b.scan, BitVec.ofNat 8 b.step] ++ leBytes 2 (flagWord false b) ++ leBytes 4 b.stamp
    ++ ratioBytes b.ratio ++ valueBytes b.value ++ [limitByte b.limit]

/-- The ones' complement of the sum of bytes, modulo 65,536 (R154, R163). -/
def checkOf (l : List Byte) : Word16 := ~~~ (BitVec.ofNat 16 (l.map BitVec.toNat).sum)

/-- The image of an archive row: header and four record slots (R154, Table 12-8). -/
def archiveRowImage (seq : Word32) (rs : List ResultBody) : RowImage :=
  let head : List Byte :=
    leBytes 4 seq ++ [BitVec.ofNat 8 rs.length, (rs.head?.map ResultBody.scan).getD 0xFF]
  let slots : List Byte :=
    (bytesVec 56 0xFF (rs.flatMap archiveRecordBytes)).toList
  bytesVec 64 0xFF (head ++ leBytes 2 (checkOf (head ++ slots)) ++ slots)

/-! ## Stored images (Table 12-11) -/

/-- An image followed by its check (R163). -/
def withCheck (l : List Byte) : List Byte := l ++ leBytes 2 (checkOf l)

/-- The 217 bytes of a profile image (R164). -/
def profileImage (p : Fin 4) (entries : Vector StepEntry 16) (g : ScanConfig) : List Byte :=
  withCheck ([Config.tagProfile, BitVec.ofNat 8 p] ++ configBytes g
    ++ entries.toList.flatMap stepBytes)

/-- The 5 bytes of a breakpoint. -/
def pointBytes (b : Breakpoint) : List Byte := leBytes 3 b.x ++ leBytes 2 b.y

/-- The active breakpoints of a curve (R76). -/
def activePoints (c : Curve) : List Breakpoint := c.points.toList.take c.count

/-- The bytes of a curve image (R165). -/
def curveImage (n : Fin 4) (c : Curve) : List Byte :=
  withCheck ([Config.tagCurve, BitVec.ofNat 8 n, BitVec.ofNat 8 c.count]
    ++ (activePoints c).flatMap pointBytes)

/-- The 7 bytes of a boot record image built from the boot staging registers (R166, R171). -/
def bootImage (regs : Vector Byte 4) : List Byte :=
  withCheck (Config.tagBoot :: regs.toList)

/-- The `k`-th row of an image, with FFh after its last byte (Table 10-1). -/
def rowOfImage (img : List Byte) (k : Nat) : RowImage := bytesVec 64 0xFF (img.drop (64 * k))

/-- The breakpoint that five bytes hold. -/
def pointOf (l : List Byte) : Breakpoint where
  x := BitVec.ofNat 24 (leValue (l.take 3))
  y := BitVec.ofNat 16 (leValue ((l.drop 3).take 2))

/-- The four boot staging registers that hold the choices. -/
def bootRegisters (b : BootChoices) : Vector Byte 4 :=
  #v[curveCode b.profile, flagByte b.autostart, (archiveModeCode b.mode).setWidth 8,
     flagByte b.flush]

/-- The first boot staging register that names no value of its field, in the order of R166. -/
def bootRegisterFault (r : Vector Byte 4) : Option Nat :=
  if (decodeBootProfile r[0]).isNone then some 0
  else if (decodeFlagByte r[1]).isNone then some 1
  else if (decodeArchiveByte r[2]).isNone then some 2
  else if (decodeFlagByte r[3]).isNone then some 3
  else none

/-- The choices that four bytes hold, when every field decodes (R166). -/
def decodeChoices (r : Vector Byte 4) : Option BootChoices :=
  match decodeBootProfile r[0], decodeFlagByte r[1], decodeArchiveByte r[2],
      decodeFlagByte r[3] with
  | some p, some a, some m, some f => some { profile := p, autostart := a, mode := m, flush := f }
  | _, _, _, _ => none

end Sys2Proof.Machine
end

