-- ==== Sys2Proof/Machine/Ops.lean ====
section
/-! DEFINITION. Shared operations: the bytes of the store, the locks, the status records, the port's
handling of a byte. -/

namespace Sys2Proof.Machine

/-! ## The store's bytes (R127, R128) -/

/-- What an address that is not listed reads as: FFh, as delivered (R127). -/
def unlistedByte : Byte := 0xFF

/-- The byte that a cell list holds at an address. -/
def cellRead : Memory → Nat → Byte
  | [], _ => unlistedByte
  | (a, b) :: m, k => if a = k then b else cellRead m k

/-- A byte written into a cell list; a byte equal to what an unlisted address reads is not listed. -/
def cellWrite : Memory → Nat → Byte → Memory
  | [], k, v => if v = unlistedByte then [] else [(k, v)]
  | (a, b) :: m, k, v =>
    if k < a then (if v = unlistedByte then (a, b) :: m else (k, v) :: (a, b) :: m)
    else if k = a then (if v = unlistedByte then m else (k, v) :: m)
    else (a, b) :: cellWrite m k v

/-- Addresses rise strictly from above `lo`, and no listed byte is the unlisted byte. -/
def cellsRise : Nat → Memory → Bool
  | _, [] => true
  | lo, (a, b) :: m => decide (lo ≤ a) && decide (b ≠ unlistedByte) && cellsRise (a + 1) m

/-- The canonical form of the store's cells: addresses strictly rising, below 4096, none holding
the unlisted byte. -/
def Memory.wf (m : Memory) : Bool := cellsRise 0 m && m.all fun c => decide (c.1 < 4096)

/-- Bytes written at successive addresses. -/
def cellsWrite (m : Memory) (k : Nat) : List Byte → Memory
  | [] => m
  | b :: bs => cellsWrite (cellWrite m k b) (k + 1) bs

/-- Byte `b` of row `r` is byte 64 r + b of the store (R127). -/
def storeAddress (r : Fin 64) (b : Nat) : Nat := 64 * r.val + b

/-- The row of a store address. -/
def rowOfAddress (a : BitVec 12) : Fin 64 := ⟨a.toNat / 64, by omega⟩

/-- Byte `b` of row `r` as the store reads it: FFh in a BLANK row (R128). -/
def rowByte (n : Store) (r : Fin 64) (b : Nat) : Byte :=
  if n.complete[r] then cellRead n.cells (storeAddress r b) else 0xFF

/-- The byte that a read of a store address returns (R128, R138). -/
def storeByte (n : Store) (a : BitVec 12) : Byte := rowByte n (rowOfAddress a) (a.toNat % 64)

/-- The 64 bytes that a row reads. -/
def rowImageOf (n : Store) (r : Fin 64) : RowImage := Vector.ofFn fun b => rowByte n r b

/-- The row numbered `k`. -/
def rowNo (k : Nat) : Fin 64 := Fin.ofNat 64 k

/-- The bytes that `rows` rows from row `first` on read, as one run (R163). -/
def rowsBytes (n : Store) (first rows : Nat) : List Byte :=
  (List.range rows).flatMap fun k => (rowImageOf n (rowNo (first + k))).toList

/-- A row is erased and its completion mark cleared: it is BLANK (R128, R130). -/
def blankRow (r : Fin 64) (n : Store) : Store :=
  { n with complete := n.complete.set r false,
           cells := cellsWrite n.cells (storeAddress r 0) (List.replicate 64 0xFF) }

/-- A row becomes COMPLETE with an image as its contents (R131). -/
def completeRow (r : Fin 64) (img : RowImage) (n : Store) : Store :=
  { n with complete := n.complete.set r true,
           cells := cellsWrite n.cells (storeAddress r 0) img.toList }

/-! ## Conditions and locks -/

/-- The Scan Controller is in STOPPED. -/
def isStopped (s : State) : Bool := decide (s.sc.state = .stopped)

/-- The part is held in full reset (R180). -/
def isHeld (s : State) : Bool := decide (s.power = .held)

/-- The part is BOOTING (R173). -/
def isBooting (s : State) : Bool :=
  match s.power with
  | .booting _ => true
  | _ => false

/-- A SAVE PROFILE is in progress: the save claim on the plan lock (R35). -/
def planSaveClaim (s : State) : Bool :=
  match s.nvs.road with
  | some h => decide (h.command = .saveProfile)
  | none => false

/-- A SAVE CURVE of curve `c` is in progress: the save claim on the curve lock (R83). -/
def curveSaveClaim (c : Fin 4) (s : State) : Bool :=
  match s.nvs.road with
  | some h => decide (h.command = .saveCurve) && decide (h.argument = BitVec.ofNat 8 c)
  | none => false

/-- The plan lock is held while the scan claim or the save claim stands (R35). -/
def planLocked (s : State) : Bool := !isStopped s || planSaveClaim s

/-- A PROGRAM ROW is in progress (R136). -/
def programRowInProgress (s : State) : Bool :=
  match s.nvs.road with
  | some h => decide (h.command = .programRow)
  | none => false

/-- The store command phase is IN_PROGRESS (R142). -/
def storeBusy (s : State) : Bool := decide (s.nvs.status.phase = .inProgress)

/-! ## Status records (R44, R81, R141) -/

/-- The measurement command status record is written, and CMD_REJECT is raised after it when the
outcome is not OK (R44, R123). -/
def measReply (last : MeasLast) (o : CmdOutcome) (d : Byte) (s : State) : State :=
  raiseIf (decide (o ≠ .ok)) .cmdReject
    { s with sc.status := { last := last, outcome := o, detail := d } }

/-- The curve edit status record is written, and CMD_REJECT raised after it when the outcome is not
OK (R81). -/
def editReply (last : EditLast) (o : CmdOutcome) (d : Byte) (s : State) : State :=
  raiseIf (decide (o ≠ .ok)) .cmdReject
    { s with rcu.editStatus := { last := last, outcome := o, detail := d } }

/-- The store command status record is written. -/
def storeStatus (p : StorePhase) (last : StoreLast) (o : CmdOutcome) (d : Byte) (s : State) :
    State :=
  { s with nvs.status := { phase := p, last := last, outcome := o, detail := d } }

/-- A store command ends at once, with CMD_REJECT when the outcome is not OK (R142, R143). -/
def storeReply (last : StoreLast) (o : CmdOutcome) (d : Byte) (s : State) : State :=
  raiseIf (decide (o ≠ .ok)) .cmdReject (storeStatus .idle last o d s)

/-- A measurement command: refused BUSY during BOOTING, otherwise decided by its rule (R45). -/
def measCommand (last : MeasLast) (act : State → State) (s : State) : State :=
  if isBooting s then measReply last .busy 0 s else act s

/-- A store command: refused BUSY during BOOTING, met by the busy refusal while another is in
progress, otherwise decided by its rule (R142, steps 1 and 2). -/
def storeCommand (last : StoreLast) (act : State → State) (s : State) : State :=
  if isBooting s then storeReply last .busy 0 s
  else if storeBusy s then raise .cmdReject s
  else act s

/-- A write that BOOTING ignores (R173, R180). -/
def unlessBooting (act : State → State) (s : State) : State := if isBooting s then s else act s

/-! ## The port (chapter 11) -/

/-- The two port addresses, the load port and the read port (R176). -/
def portAddresses : List Addr := [0x63, 0x66]

/-- The address after a data byte: the next one, 127 followed by 0, but for the port addresses
(R176). -/
def nextAddress (a : Addr) : Addr := if portAddresses.contains a then a else a + 1

/-- The addresses at which a read frame does more than move on: those whose reads have an effect,
each with a row of its own in the table, and the load port, which a frame does not leave (R176,
Table 12-4). -/
def readStops : List Addr := [0x08, 0x1B, 0x2F, 0x39, 0x40, 0x55, 0x63, 0x64, 0x66, 0x6C]

/-- The first of them that a read frame standing at `x` comes to. The addresses before it are read
without an effect, and their reads have no row in the table (log 2). -/
def nextReadStop (x : Addr) : Addr :=
  (readStops.find? fun a => decide (x.toNat ≤ a.toNat)).getD 0x08

/-- The frame in hand brings a write byte to address `a`: it is a write frame that has come to `a`
(R175, R176). None does so while a full reset holds the part (R180). -/
def bringsWrite (a : Addr) (s : State) : Bool :=
  !isHeld s &&
    match s.port.frame with
    | .data _ .write x => decide (x = a)
    | _ => false

/-- The frame in hand brings a read of address `a`: it is a read frame that stands at `a`, or comes
to `a` next by reads without an effect (R175, R176, log 2). -/
def bringsRead (a : Addr) (s : State) : Bool :=
  !isHeld s &&
    match s.port.frame with
    | .data _ .read x => decide (nextReadStop x = a)
    | _ => false

/-- A frame after a data byte at address `a` (R176). -/
def frameAfter (a : Addr) : Frame → Frame
  | .data m d _ => .data m d (nextAddress a)
  | f => f

/-- The port after a write byte at `a`: the frame has moved on, and SDO stays at high impedance
(R175, R176). -/
def portWrote (a : Addr) (t : State) : State :=
  { t with port := { frame := frameAfter a t.port.frame, sdo := none } }

/-- The port after a fetch of `v` from `a`: the frame has moved on, and SDO is driven with `v`
(R175 to R177). -/
def portFetched (a : Addr) (v : Byte) (t : State) : State :=
  { t with port := { frame := frameAfter a t.port.frame, sdo := some v } }

/-- A write byte at address `a`: where the frame brings it, the owning block acts and the frame moves
on; otherwise the port takes no byte there (R175 to R177, log 1). -/
def busWrite (a : Addr) (act : State → State) (s : State) : State :=
  if bringsWrite a s then portWrote a (act s) else s

/-- A read byte is fetched from an address: the owning block gives the state after its effects and
the byte to be shifted out, and the frame moves on (R176, R177). -/
def fetchAt (a : Addr) (read : State → State × Byte) (s : State) : State :=
  portFetched a (read s).2 (read s).1

/-- A fetch from address `a`, where the frame brings it (R175 to R177, log 1). -/
def busFetch (a : Addr) (read : State → State × Byte) (s : State) : State :=
  if bringsRead a s then fetchAt a read s else s

end Sys2Proof.Machine
end

