-- ==== Sys2Proof/Machine/Limit.lean ====
section
/-! DEFINITION. The Limit Watch: classification, the consecutive filter, limit changes (R89 to
R93, R97). -/

namespace Sys2Proof.Machine

/-- The class of a value against a window (R90). -/
def classify (low high : Word16) (v : Int) : LimitClass :=
  if v < low.toInt then .below else if high.toInt < v then .above else .inside

/-- The first line of the table of R91 that applies. -/
def countClass (c : LimitClass) (r : LimitRecord) : LimitRecord :=
  if r.state = .settled c then { r with candidate := none, count := 0 }
  else if r.candidate = some c then { r with count := r.count + 1 }
  else { r with candidate := some c, count := 1 }

/-- The record after a value of class `c` under the given filter (R91). -/
def updateRecord (filter : Nat) (c : LimitClass) (r : LimitRecord) : LimitRecord :=
  let u := countClass c r
  match u.candidate with
  | some k => if u.count = filter then { state := .settled k, candidate := none, count := 0 } else u
  | none => u

/-- Whether a limit change raises LIMIT (Table 5-2): every change but UNKNOWN to INSIDE. -/
def changeRaises (before after : LimitState) : Bool :=
  decide (before ≠ after) && !(decide (before = .unknown) && decide (after = .settled .inside))

/-- What the Limit Watch hands back (R92). -/
structure LimitAnswer where
  /-- The state after the update; none when nothing is handed back (R89). -/
  state : Option LimitState
  /-- A limit change occurred. -/
  changed : Bool
deriving DecidableEq, Repr

/-- The Limit Watch acts on the result of step `j` (R89 to R93). -/
def watchLimit (j : Fin 16) (v : Option Int) (s : State) : State × LimitAnswer :=
  let e := s.plan.entries[j]
  match e.limits, v with
  | true, some x =>
    let r := s.lw.records[j]
    let u := updateRecord e.filter (classify e.low e.high x) r
    (raiseIf (changeRaises r.state u.state) .limit
       { s with lw.records := s.lw.records.set j u },
     { state := some u.state, changed := decide (r.state ≠ u.state) })
  | _, _ => (s, { state := none, changed := false })

/-- Every limit record is reset (R97). -/
def resetLimits (s : State) : State :=
  { s with lw.records := Vector.replicate 16 resetLimitRecord }

end Sys2Proof.Machine
end

