-- ==== Sys2Proof/Machine/Queue.lean ====
section
/-! DEFINITION. The Result Queue: offering, accepting, discarding, removing (R103 to R113). -/

namespace Sys2Proof.Machine

/-- A record with GAP_BEFORE as given (R104). -/
def withGap (g : Bool) : Record → Record
  | .measurement _ b c o => .measurement g b c o
  | .scanEnd _ l n st c f t => .scanEnd g l n st c f t

/-- A record is accepted: it takes the gap-pending flag into GAP_BEFORE and joins at the tail
(R104); the watermark condition is re-evaluated (R112). -/
def acceptRecord (r : Record) (s : State) : State :=
  watermarkEval
    { s with
      rq.records := s.rq.records ++ [withGap s.rq.gapPending r]
      rq.gapPending := false }

/-- A record is discarded: the gap-pending flag is set and QUEUE_DROP raised (R105). -/
def discardRecord (s : State) : State := raise .queueDrop { s with rq.gapPending := true }

/-- The Scan Controller offers a record (R103 to R105). -/
def offerRecord (r : Record) (s : State) : State :=
  if level s < Config.queueCapacity then acceptRecord r s else discardRecord s

/-- The head record is removed, if there is one (R108). -/
def removeHead (s : State) : State := watermarkEval { s with rq.records := s.rq.records.tail }

/-- Every record is removed and the gap-pending flag cleared (R109, R113). -/
def emptyQueue (s : State) : State :=
  watermarkEval { s with rq.records := [], rq.gapPending := false }

/-- A write of the watermark register (R112). -/
def writeWatermark (v : Byte) (s : State) : State :=
  if 1 ≤ v.toNat ∧ v.toNat ≤ 32 then watermarkEval { s with rq.watermark := v.toNat } else s

end Sys2Proof.Machine
end

