-- ==== Sys2Proof/Machine/Ratio.lean ====
section
/-! DEFINITION. The Ratio and Curve Unit: period slots, ratio, commit check, interpolation (R70 to
R77, R84 to R86). -/

namespace Sys2Proof.Machine

/-- The result of step `j` is written into its slot (R70). -/
def writeSlot (j : Fin 16) (r : ConvResult) (s : State) : State :=
  let slot : PeriodSlot := ⟨decide (r.outcome = .good), r.clock, r.osc⟩
  { s with rcu.slots := s.rcu.slots.set j slot }

/-- All sixteen slots are emptied (R71). -/
def clearSlots (s : State) : State := { s with rcu.slots := Vector.replicate 16 emptySlot }

/-- The quotient of R73, rounded down; the free value of log 18 where the denominator is 0. -/
def quotient (j k : PeriodSlot) : Nat :=
  if j.osc * k.clock = 0 then Config.zeroDivisorQuotient j.clock j.osc k.clock k.osc
  else (j.clock * k.osc * Config.ratioOne) / (j.osc * k.clock)

/-- The saturated ratio, and whether it was saturated (R74). -/
def saturate (q : Nat) : Nat × Bool :=
  if Config.ratioMax < q then (Config.ratioMax, true) else (q, false)

/-- Interpolation in the segment from `a` to `b`, truncated toward zero (R86). -/
def interpolate (a b : Breakpoint) (x : Nat) : Int :=
  a.y.toInt
    + (((x : Int) - a.x.toNat) * (b.y.toInt - a.y.toInt)).tdiv ((b.x.toNat : Int) - a.x.toNat)

/-- The value in the first segment that holds the ratio (R85). -/
def inSegments (x : Nat) : List Breakpoint → Option Int
  | a :: b :: rest =>
    if a.x.toNat ≤ x ∧ x < b.x.toNat then some (interpolate a b x) else inSegments x (b :: rest)
  | _ => none

/-- What a curve gives for a ratio: value, CLAMP_LOW, CLAMP_HIGH (R85). No value for a curve with no
active breakpoint, which an armed plan never names (log 16). -/
structure Placed where
  value : Option Int
  clampLow : Bool
  clampHigh : Bool
deriving DecidableEq, Repr

/-- The ratio is placed on the active breakpoints (R85). -/
def placeRatio (x : Nat) (pts : List Breakpoint) : Placed :=
  match pts.head?, pts.getLast? with
  | some first, some last =>
    if x < first.x.toNat then ⟨some first.y.toInt, true, false⟩
    else if last.x.toNat < x then ⟨some last.y.toInt, false, true⟩
    else if x = last.x.toNat then ⟨some last.y.toInt, false, false⟩
    else ⟨inSegments x pts, false, false⟩
  | _, _ => ⟨none, false, false⟩

/-- What the Ratio and Curve Unit hands back (Table 4-1). -/
structure RatioAnswer where
  ratio : Option Nat
  value : Option Int
  sat : Bool
  clampLow : Bool
  clampHigh : Bool
  pairInvalid : Bool
deriving DecidableEq, Repr

/-- A ratio and a value, or PAIR_INVALID, for step `j`, its slot having been written (R72 to R75). -/
def formRatio (j : Fin 16) (s : State) : RatioAnswer :=
  let e := s.plan.entries[j]
  match e.pair with
  | none => ⟨none, none, false, false, false, false⟩
  | some k =>
    let sj := s.rcu.slots[j]
    let sk := s.rcu.slots[k]
    if sj.valid && sk.valid then
      let q := saturate (quotient sj sk)
      match e.curve with
      | none => ⟨some q.1, none, q.2, false, false, false⟩
      | some c =>
        let p := placeRatio q.1 (activePoints s.rcu.curves[c])
        ⟨some q.1, p.value, q.2, p.clampLow, p.clampHigh, false⟩
    else ⟨none, none, false, false, false, true⟩

/-- The first index `i ≥ 1` whose x is not greater than the x before it; `i` is the index of the
second breakpoint of the list (R84). -/
def firstNotRising (i : Nat) : List Breakpoint → Option Nat
  | a :: b :: rest =>
    if b.x.toNat ≤ a.x.toNat then some i else firstNotRising (i + 1) (b :: rest)
  | _ => none

/-- The commit check: none is a pass, otherwise the detail of the failure (R84). -/
def commitCheck (c : Curve) : Option Byte :=
  if c.count < 2 ∨ 24 < c.count then some 0xFF
  else (firstNotRising 1 (activePoints c)).map (BitVec.ofNat 8)

/-- The curve with its valid flag as the commit check leaves it (R77, R84). -/
def committed (c : Curve) : Curve := { c with valid := (commitCheck c).isNone }

/-- Curve `c` is replaced in the tables. -/
def setCurve (c : Fin 4) (v : Curve) (s : State) : State :=
  { s with rcu.curves := s.rcu.curves.set c v }

/-- A curve as a load leaves it: count and active breakpoints from the image, x 0 and y 0 above, and
the commit check made (R76). -/
def loadedCurve (n : Nat) (pts : List Breakpoint) : Curve :=
  committed { count := n, points := Vector.ofFn fun i => pts.getD i ⟨0, 0⟩, valid := false }

end Sys2Proof.Machine
end

