-- ==== Sys2Proof/Machine/Engine.lean ====
section
/-! DEFINITION. The program engine and its arbiter: claims, the choice among them, and the start of
a program cycle (R129, R130, R135, R146, R147). -/

namespace Sys2Proof.Machine

/-- The merge of the page buffer and row `r` (R135): a byte whose loaded mark is set comes from the
buffer, any other from what the row reads just before the cycle. -/
def mergeImage (n : Store) (r : Fin 64) : RowImage :=
  Vector.ofFn fun b => if n.page.loaded[b] then n.page.data[b] else rowByte n r b

/-- The image of a claim at the start of its cycle. -/
def claimImage (n : Store) (c : Claim) : RowImage :=
  match c.image with
  | .fixed img => img
  | .merge => mergeImage n c.row

/-- A program cycle begins: the engine copies row, image and claimant, enters BUSY with attempt 1,
and the row becomes BLANK (R130). -/
def startCycle (w : Claimant) (c : Claim) (n : Store) : Store :=
  let img := claimImage n c
  { blankRow c.row n with
    engine := { busy := true, row := c.row, owner := w, second := false, image := img } }

/-- The host claim goes to the engine. -/
def startHost (c : Claim) (n : Store) : Store :=
  startCycle .host c { n with hostClaim := none }

/-- The archive claim goes to the engine. -/
def startArchive (c : Claim) (n : Store) : Store :=
  startCycle .archive c { n with archiveClaim := none }

/-- The arbiter hands a waiting claim to an IDLE engine; of two, that of the claimant that did not
own the last cycle (R146, R147). -/
def arbitrateStore (n : Store) : Store :=
  if n.engine.busy then n
  else
    match n.hostClaim, n.archiveClaim with
    | none, none => n
    | some h, none => startHost h n
    | none, some a => startArchive a n
    | some h, some a =>
      match n.engine.owner with
      | .host => startArchive a n
      | .archive => startHost h n

/-- The arbiter's choice, on the whole state. -/
def arbitrate (s : State) : State := { s with nvs := arbitrateStore s.nvs }

/-- The host claimant makes a claim (R144, R146). -/
def hostClaims (r : Fin 64) (i : ClaimImage) (s : State) : State :=
  { s with nvs.hostClaim := some { row := r, image := i } }

/-- The archive claimant makes a claim (R146, R152). -/
def archiveClaims (r : Fin 64) (img : RowImage) (s : State) : State :=
  { s with nvs.archiveClaim := some { row := r, image := .fixed img } }

end Sys2Proof.Machine
end

