-- ==== Sys2Proof/Machine/Staging.lean ====
section
/-! DEFINITION. The Archive Unit's staging buffers and row ends (R148 to R157). A claim made here
waits at the arbiter; the happening that made it ends with the arbiter's choice (`arbitrate`). -/

namespace Sys2Proof.Machine

/-- What the Archive Unit is doing with the store (R148). -/
inductive Activity where
  | idle | waiting | programming | erasing
deriving DecidableEq, Repr

/-- The activity follows from the rest of the state (R148). -/
def activity (s : State) : Activity :=
  if s.au.erase.isSome then .erasing
  else if s.nvs.engine.busy && decide (s.nvs.engine.owner = .archive) then .programming
  else if s.nvs.archiveClaim.isSome then .waiting
  else .idle

/-- The AU is ERASING (R159). -/
def isErasing (s : State) : Bool := s.au.erase.isSome

/-- Records of buffer `i`, 0 or 1. -/
def bufferRecords (a : ArchiveUnit) (i : Fin 2) : List ResultBody :=
  if a.fillingIndex = i then a.filling else a.committed.getD []

/-- The AU claims the row at the write pointer for the COMMITTED buffer, with the image that carries
the next sequence (R152, R154). No row claim is made while ERASING or while FULL is set. -/
def claimCommitted (s : State) : State :=
  match s.au.committed with
  | some rs =>
    if isErasing s || s.au.full then s
    else archiveClaims s.au.writePointer (archiveRowImage s.au.nextSeq rs) s
  | none => s

/-- Whether the FILLING buffer commits: it is full, or flush-pending with 1 to 3 records, and the
other buffer is FREE (R152). -/
def commits (a : ArchiveUnit) : Bool :=
  a.committed.isNone &&
    (decide (Config.bufferRecords ≤ a.filling.length) || (a.flushPending && !a.filling.isEmpty))

/-- The FILLING buffer commits, the other becomes FILLING, and the claim is made (R152). -/
def commitFilling (s : State) : State :=
  claimCommitted
    { s with
      au.committed := some s.au.filling
      au.filling := []
      au.fillingIndex := 1 - s.au.fillingIndex
      au.failedOnce := false
      au.flushPending := false }

/-- The FILLING buffer commits if it now meets R152. -/
def tryCommit (s : State) : State := if commits s.au then commitFilling s else s

/-- An archive record is offered (R151). -/
def offerArchive (b : ResultBody) (s : State) : State :=
  if s.au.mode = .off then s
  else if s.au.full && !isErasing s then raise .archiveLost s
  else if s.au.filling.length < Config.bufferRecords then
    tryCommit { s with au.filling := s.au.filling ++ [b] }
  else raise .archiveLost s

/-- A flush of the FILLING buffer (R153). -/
def flushFilling (s : State) : State :=
  if s.au.filling.isEmpty then s
  else if s.au.committed.isNone then commitFilling s
  else { s with au.flushPending := true }

/-- The scan-end signal of the Scan Controller (R153). -/
def signalScanEnd (s : State) : State := if s.au.flushAtEnd then flushFilling s else s

/-- A cycle of a row claim of the AU is in flight. -/
def archiveInFlight (s : State) : Bool :=
  s.nvs.engine.busy && decide (s.nvs.engine.owner = .archive)

/-- FULL becomes set: ARCHIVE_FULL is raised and every staged record that is not in a cycle in
flight is discarded, with ARCHIVE_LOST if there was one (R157). -/
def setFull (s : State) : State :=
  let keep := archiveInFlight s
  let lost := !s.au.filling.isEmpty || (s.au.committed.isSome && !keep)
  raiseIf lost .archiveLost
    (raise .archiveFull
      { s with
        au.full := true
        au.filling := []
        au.committed := if keep then s.au.committed else none
        au.flushPending := false
        au.failedOnce := false })

/-- The next sequence cannot be advanced (R155). -/
def seqExhausted (a : ArchiveUnit) : Bool := decide (a.nextSeq = 0xFFFFFFFF)

/-- The row after a ring row, 63 followed by 32 (R155, R162). -/
def ringNext (r : Fin 64) : Fin 64 := if r = 63 then 32 else r + 1

/-- The end of an AU cycle sets FULL: an advance past row 63 in FILL mode, or exhaustion of the
sequence numbers (R155). -/
def advanceFills (a : ArchiveUnit) : Bool :=
  (decide (a.mode = .fill) && decide (a.writePointer = 63)) || seqExhausted a

/-- Next sequence and write pointer are advanced, and FULL set where R155 gives. -/
def advanceRing (s : State) : State :=
  let t : State :=
    { s with
      au.nextSeq := if seqExhausted s.au then s.au.nextSeq else s.au.nextSeq + 1
      au.writePointer := ringNext s.au.writePointer }
  if advanceFills s.au then setFull t else t

/-- A cycle of the AU's row claim ended OK (R155). -/
def archiveRowOk (s : State) : State :=
  tryCommit (advanceRing { s with au.committed := none, au.failedOnce := false })

/-- The COMMITTED buffer is discarded (R156). -/
def discardCommitted (s : State) : State :=
  tryCommit (raise .archiveLost { s with au.committed := none, au.failedOnce := false })

/-- A cycle of the AU's row claim ended FAILED (R156): once for a buffer, and it is claimed again
on the next row (not while ERASING, R159); twice, or with FULL just set, and it is discarded. -/
def archiveRowFailed (s : State) : State :=
  let t := advanceRing s
  if advanceFills s.au then t
  else if s.au.failedOnce then discardCommitted t
  else claimCommitted { t with au.failedOnce := true }

end Sys2Proof.Machine
end

