-- ==== Sys2Proof/Machine/Scan.lean ====
section
/-! DEFINITION. The Scan Controller and the Conversion Unit: plan validation, triggers, the step
walk, results, scan end (R4, R11, R13, R38, R47, R50, R54 to R62). -/

namespace Sys2Proof.Machine

/-! ## Conversion Unit -/

/-- The leg that a path energizes; none for EXT (Table 1-2). -/
def legOf : MeasPath → Option (Channel × Leg)
  | .leg ch l => some (ch, l)
  | .ext => none

/-- The signal that the oscillation counter counts for a path (Table 1-2). -/
def sourceOf : MeasPath → OscSource
  | .leg ch _ => .channel ch
  | .ext => .fin

/-- The Conversion Unit takes a conversion order made from a step entry, in OFF; in SETTLE and GATE
it has no place for one (R4, R56). -/
def takeOrder (e : StepEntry) (u : ConversionUnit) : ConversionUnit :=
  if u.state = .off then
    { state := if e.settle = 0 then .gate else .settle
      path := e.path, gateMode := e.gateMode, gateLength := e.gateLength.toNat
      settleCount := e.settle.toNat, settleCounter := 0, clockCounter := 0, oscCounter := 0
      energized := legOf e.path }
  else u

/-- A conversion in SETTLE or GATE is abandoned; in OFF nothing changes (R13). -/
def abandonUnit (u : ConversionUnit) : ConversionUnit :=
  if u.state = .off then u
  else { u with state := .off, energized := none, settleCounter := 0, clockCounter := 0,
                oscCounter := 0 }

/-- Abandonment, on the whole state. -/
def abandon (s : State) : State := { s with cu := abandonUnit s.cu }

/-! ## Steps and their space -/

/-- The first enabled step. -/
def firstEnabled (p : ScanPlan) : Option (Fin 16) :=
  stepIndices.find? fun j => p.entries[j].enabled

/-- The next enabled step above `k` (R57, step 7). -/
def nextEnabled (p : ScanPlan) (k : Fin 16) : Option (Fin 16) :=
  stepIndices.find? fun j => decide (k < j) && p.entries[j].enabled

/-- A step may start: under DROP always, under HOLD with at least 2 free slots (R54, R55). -/
def spaceToStart (s : State) : Bool :=
  decide (s.plan.config.policy = .drop) || decide (level s ≤ Config.startLevel)

/-- A step is started (R56). -/
def startStep (j : Fin 16) (s : State) : State :=
  { s with
    sc.current := some j
    sc.state := .running .converting true
    cu := takeOrder s.plan.entries[j] s.cu }

/-- A started scan is begun: scan number, slots, tallies and LATE marker, then the first enabled
step (R54). -/
def beginScan (s : State) : State :=
  let t := clearSlots
    { s with
      sc.scanNumber := s.sc.scanNumber + 1
      sc.converted := 0
      sc.faulted := 0
      sc.late := s.sc.fromLatch }
  match firstEnabled s.plan with
  | some j => startStep j t
  | none => { t with sc.state := .running .waitSpace true }

/-- A scan is started: begun at once where its first step may start, otherwise held unbegun in
WAIT_SPACE with the first enabled step as current step (R50, R54, R60). -/
def startScan (fromLatch : Bool) (s : State) : State :=
  let t : State :=
    { s with
      sc.fromLatch := fromLatch
      sc.state := .running .waitSpace false
      sc.current := firstEnabled s.plan }
  if spaceToStart t then beginScan t else t

/-- A trigger is taken (R50). -/
def takeTrigger (s : State) : State :=
  match s.sc.state with
  | .stopped => s
  | .armed => startScan false s
  | .running _ _ => if s.sc.pending then raise .overrun s else { s with sc.pending := true }

/-- A WAIT_SPACE is examined again after the queue has lost records (R55). -/
def reexamine (s : State) : State :=
  match s.sc.state with
  | .running .waitSpace begun =>
    if spaceToStart s then
      if begun then
        match s.sc.current with
        | some j => startStep j s
        | none => s
      else beginScan s
    else s
  | _ => s

/-! ## Plan validation and arming -/

/-- Whether an enabled entry passes the checks of Table 2-4. -/
def entryPasses (p : ScanPlan) (curves : Vector Curve 4) (e : StepEntry) : Bool :=
  (match e.pair with
   | some k => p.entries[k].enabled
   | none => e.curve.isNone)
  && (match e.curve with
      | some c => curves[c].valid
      | none => !e.limits)

/-- Validation of the whole plan: none is a pass, otherwise the detail (R38). -/
def validatePlan (s : State) : Option Byte :=
  if (firstEnabled s.plan).isNone then some 0xFF
  else
    (stepIndices.find? fun j =>
      s.plan.entries[j].enabled
        && !entryPasses s.plan s.rcu.curves s.plan.entries[j]).map fun j : Fin 16 => BitVec.ofNat 8 j.val

/-- Steps 1 to 4 of R47: limit records, pending latch, interval timer, ARMED. -/
def enterArmed (s : State) : State :=
  let t := resetLimits s
  { t with
    sc.pending := false
    sc.timer :=
      if s.plan.config.interval then
        some { units := s.plan.config.units.toNat, phase := 0, expired := 0 }
      else none
    sc.state := .armed }

/-- The trigger of the IMMEDIATE source on entry into ARMED (R47, step 6). -/
def immediateTrigger (s : State) : State :=
  if s.plan.config.immediate then takeTrigger s else s

/-! ## Scan end -/

/-- The SCAN_END record is built and offered, SCAN_END raised and the Archive Unit signalled
(R60 steps 1 to 4, R62 steps 2 to 5). -/
def closeScan (st : EndStatus) (s : State) : State :=
  let rec' := Record.scanEnd false s.sc.late s.sc.scanNumber st s.sc.converted s.sc.faulted
    s.tb.count
  arbitrate (signalScanEnd (raise .scanEnd (offerRecord rec' s)))

/-- The Scan Controller enters STOPPED: the timer stops and the pending latch is cleared. -/
def enterStopped (s : State) : State :=
  { s with sc.timer := none, sc.pending := false, sc.current := none, sc.state := .stopped }

/-- What follows a COMPLETE scan end (R60, step 5). -/
def afterScan (s : State) : State :=
  match s.plan.config.repeatMode with
  | .oneShot => enterStopped s
  | .repeating =>
    if s.sc.pending then startScan true { s with sc.pending := false }
    else if s.plan.config.immediate then startScan false s
    else { s with sc.current := none, sc.state := .armed }

/-- The scan ends COMPLETE (R60). -/
def endScan (s : State) : State :=
  let t := closeScan .complete s
  afterScan { t with sc.current := none }

/-! ## Results -/

/-- Step 1 of R57: the tallies. -/
def tally (r : ConvResult) (s : State) : State :=
  if r.outcome = .good then { s with sc.converted := s.sc.converted + 1 }
  else { s with sc.faulted := s.sc.faulted + 1 }

/-- The body of the MEASUREMENT record of step `j` (R57 step 4, R100). -/
def resultBody (j : Fin 16) (r : ConvResult) (a : RatioAnswer) (l : Option LimitState)
    (s : State) : ResultBody where
  scan := s.sc.scanNumber
  step := j
  stamp := r.stamp
  outcome := r.outcome
  sat := a.sat
  clampLow := a.clampLow
  clampHigh := a.clampHigh
  pairInvalid := a.pairInvalid
  late := s.sc.late
  ratio := a.ratio
  value := a.value
  limit := l

/-- Whether a step's record is offered to the queue (R57 step 5, R94). -/
def offers (p : ReportPolicy) (changed : Bool) : Bool :=
  match p with
  | .all => true
  | .limitOnly => changed
  | .none => false

/-- Step 7 of R57: the next enabled step, started or made to wait, or the end of the scan. -/
def walkOn (j : Fin 16) (s : State) : State :=
  match nextEnabled s.plan j with
  | some k =>
    if spaceToStart s then startStep k s
    else { s with sc.current := some k, sc.state := .running .waitSpace true }
  | none => endScan s

/-- Steps 1 to 6 of R57 for the result of step `j`. -/
def passResult (j : Fin 16) (r : ConvResult) (s : State) : State :=
  let e := s.plan.entries[j]
  let s1 := writeSlot j r (tally r s)
  let a := formRatio j s1
  let w := watchLimit j a.value s1
  let body := resultBody j r a w.2.state w.1
  let s2 :=
    if offers e.report w.2.changed then offerRecord (.measurement false body r.clock r.osc) w.1
    else w.1
  let s3 := raiseIf (decide (r.outcome ≠ .good)) .convFault s2
  if e.archive then arbitrate (offerArchive body s3) else s3

/-- The Scan Controller takes the result of the current step (R57). -/
def takeResult (r : ConvResult) (s : State) : State :=
  match s.sc.current with
  | some j => walkOn j (passResult j r s)
  | none => s

/-- A conversion ends: the leg is released, the unit enters OFF, the Time Base is read and the
result handed over (R11, R12). -/
def endConversion (o : ConvOutcome) (s : State) : State :=
  let r : ConvResult :=
    { outcome := o, clock := s.cu.clockCounter, osc := s.cu.oscCounter, stamp := s.tb.count }
  takeResult r { s with cu.energized := none, cu.state := .off }

end Sys2Proof.Machine
end

