-- ==== Sys2Proof/Machine/Clocks.lean ====
section
/-! DEFINITION. Ticks, clock periods and oscillation cycles, and the ends of a conversion's phases
(R5 to R12, R15, R52, R66). -/

namespace Sys2Proof.Machine

/-! ## Time Base and interval timer -/

/-- The interval timer of a run whose interval is `interval` units, after `n` ticks. Its count falls by
one unit every 16 ticks. At the tick that brings it to 0 it expires: it is reloaded with phase 0, and
the ticks after that one count in the new period (R52). -/
def timerTicks (interval n : Nat) (t : IntervalTimer) : IntervalTimer :=
  let left := t.units * Config.ticksPerUnit - t.phase
  if n < left then
    { t with
      units := t.units - (t.phase + n) / Config.ticksPerUnit
      phase := (t.phase + n) % Config.ticksPerUnit }
  else
    let period := interval * Config.ticksPerUnit
    let gone := (n - left) % period
    { units := interval - gone / Config.ticksPerUnit
      phase := gone % Config.ticksPerUnit
      expired := t.expired + 1 + (n - left) / period }

/-- `n` ticks of the crystal (R66, R52). The Time Base does not count while a full reset holds the
part. -/
def ticks (n : Nat) (s : State) : State :=
  if isHeld s then s
  else
    { s with
      tb.count := s.tb.count + BitVec.ofNat 32 n
      sc.timer := s.sc.timer.map (timerTicks s.plan.config.units.toNat n) }

/-- The Scan Controller takes the INTERVAL trigger of an expiry, where one has fallen (R50, R52,
log 5). -/
def expire (s : State) : State :=
  match s.sc.timer with
  | some t =>
    if t.expired = 0 then s
    else takeTrigger { s with sc.timer := some { t with expired := t.expired - 1 } }
  | none => s

/-! ## Counting (R5) -/

/-- What is due in the Conversion Unit. -/
inductive Due where
  | settleComplete | settleTimeout | timeClose | cyclesClose | stallCeiling
deriving DecidableEq, Repr

/-- The phase end that the counters have reached (R6 to R10). -/
def due (u : ConversionUnit) : Option Due :=
  match u.state with
  | .off => none
  | .settle =>
    if u.settleCounter = u.settleCount then some .settleComplete
    else if u.clockCounter = Config.settleTimeout then some .settleTimeout
    else none
  | .gate =>
    match u.gateMode with
    | .time => if u.clockCounter = u.gateLength then some .timeClose else none
    | .cycles =>
      if u.oscCounter = u.gateLength then some .cyclesClose
      else if u.clockCounter = Config.clockCeiling then some .stallCeiling
      else none

/-- The clock count at which a phase ends by the clock, or at which the clock counter holds. -/
def clockStop (u : ConversionUnit) : Nat :=
  match u.state with
  | .settle => Config.settleTimeout
  | .gate =>
    match u.gateMode with
    | .time => u.gateLength
    | .cycles => Config.clockCeiling
  | .off => 0

/-- `c` counted on by `n`, but not past `stop`. -/
def countTo (stop c n : Nat) : Nat := max c (min (c + n) stop)

/-- Whether the clock counter holds: while the end of a phase is due (log 4), but for the period that
meets the close of a CYCLES gate at the clock's ceiling, which R10 counts when the cycle is taken
first. -/
def clockHolds (u : ConversionUnit) : Bool :=
  match due u with
  | none => false
  | some .cyclesClose => decide (u.clockCounter + 1 ≠ Config.clockCeiling)
  | some _ => true

/-- `n` conversion clock periods (R5): counted in SETTLE and GATE, up to the count that ends the
phase. -/
def clockPeriods (n : Nat) (u : ConversionUnit) : ConversionUnit :=
  if u.state = .off ∨ clockHolds u = true then u
  else { u with clockCounter := countTo (clockStop u) u.clockCounter n }

/-- `n` cycles of the signal of the path (R5): in SETTLE they count in both counters until the
settle count is reached; in a TIME gate up to the ceiling; in a CYCLES gate up to the gate
length. -/
def oscCycles (n : Nat) (u : ConversionUnit) : ConversionUnit :=
  if (due u).isSome then u
  else
    match u.state with
    | .off => u
    | .settle =>
      let k := min n (u.settleCount - u.settleCounter)
      { u with settleCounter := u.settleCounter + k,
               oscCounter := countTo Config.oscCeiling u.oscCounter k }
    | .gate =>
      match u.gateMode with
      | .time => { u with oscCounter := countTo Config.oscCeiling u.oscCounter n }
      | .cycles =>
        { u with oscCounter := countTo (min u.gateLength Config.oscCeiling) u.oscCounter n }

/-- `n` cycles of one source: counted only for a path that counts that source (R1). -/
def sourceCycles (src : OscSource) (n : Nat) (u : ConversionUnit) : ConversionUnit :=
  if sourceOf u.path = src then oscCycles n u else u

/-! ## Ends of phases -/

/-- A happening inside the part that comes about only when it is due (log 4). -/
def whenDue (d : Due) (act : State → State) (s : State) : State :=
  if due s.cu = some d then act s else s

/-- The settle is complete: the counters are cleared and the gate opens (R6). -/
def openGate (s : State) : State :=
  { s with cu.clockCounter := 0, cu.oscCounter := 0, cu.state := .gate }

/-- The outcome of a TIME gate (R8). -/
def timeOutcome (osc : Nat) : ConvOutcome :=
  if osc = 0 then .dead else if osc < Config.oscCeiling then .good else .over

/-- The close of a TIME gate (R8). -/
def closeTimeGate (s : State) : State := endConversion (timeOutcome s.cu.oscCounter) s

/-- TIME_BASE_TICK. -/
def execTimeBaseTick (n : Nat) (s : State) : Host.Outcome State Fault Refusal :=
  .next (ticks n s)

/-- INTERVAL_EXPIRY. -/
def execIntervalExpiry (s : State) : Host.Outcome State Fault Refusal := .next (expire s)

/-- CCLK_PERIOD. -/
def execCclkPeriod (n : Nat) (s : State) : Host.Outcome State Fault Refusal :=
  .next { s with cu := clockPeriods n s.cu }

/-- OSCILLATION_CYCLE. -/
def execOscillationCycle (src : OscSource) (n : Nat) (s : State) :
    Host.Outcome State Fault Refusal :=
  .next { s with cu := sourceCycles src n s.cu }

/-- SETTLE_COMPLETE. -/
def execSettleComplete (s : State) : Host.Outcome State Fault Refusal :=
  .next (whenDue .settleComplete openGate s)

/-- SETTLE_TIMEOUT (R7). -/
def execSettleTimeout (s : State) : Host.Outcome State Fault Refusal :=
  .next (whenDue .settleTimeout (endConversion .stall) s)

/-- TIME_GATE_CLOSE (R8). -/
def execTimeGateClose (s : State) : Host.Outcome State Fault Refusal :=
  .next (whenDue .timeClose closeTimeGate s)

/-- CYCLES_GATE_CLOSE (R9, R10). The clock count is whatever the counter has reached, and with a clock
that stood still since the gate opened that is 0: R15 gives this close, R9, R16 and R17 have no such
count. DESIGN CHOICE (log 18): the result is GOOD with clock count 0 and makes a valid slot. -/
def execCyclesGateClose (s : State) : Host.Outcome State Fault Refusal :=
  .next (whenDue .cyclesClose (endConversion .good) s)

/-- STALL_CEILING (R10). -/
def execStallCeiling (s : State) : Host.Outcome State Fault Refusal :=
  .next (whenDue .stallCeiling (endConversion .stall) s)

end Sys2Proof.Machine
end

