-- ==== Sys2Proof/Machine/Images.lean ====
section
/-! DEFINITION. Stored images as they are read and judged: profiles, curves, the boot record, and the
rows of the archive ring (R162 to R166, R172). -/

namespace Sys2Proof.Machine

/-- The check that follows the first `n` bytes of an image matches them (R163). -/
def checkMatches (n : Nat) (l : List Byte) : Bool :=
  decide (leValue ((l.drop n).take 2) = (checkOf (l.take n)).toNat)

/-- Classes of an image (R163). -/
inductive Judged where
  | absent | bad | good
deriving DecidableEq, Repr

/-- An image judged in the order of R163: tag, then the fields that fix its place and length, then
the check over its first `n` bytes. -/
def judge (tag : Byte) (placeOk : Bool) (n : Nat) (l : List Byte) : Judged :=
  if l.getD 0 0xFF = 0xFF then .absent
  else if l.getD 0 0xFF ≠ tag then .bad
  else if !placeOk then .bad
  else if checkMatches n l then .good
  else .bad

/-- The bytes of the rows of profile `p` (Table 10-1). -/
def profileRowsBytes (n : Store) (p : Fin 4) : List Byte := rowsBytes n (4 * p.val) 4

/-- A profile image judged (R163). -/
def judgeProfile (p : Fin 4) (l : List Byte) : Judged :=
  judge Config.tagProfile (decide (l.getD 1 0xFF = BitVec.ofNat 8 p)) 215 l

/-- The step image of entry `k` in a profile image (Table 12-11). -/
def profileStep (l : List Byte) (k : Fin 16) : Vector Byte 13 :=
  bytesVec 13 0 ((l.drop (7 + 13 * k.val)).take 13)

/-- The configuration in a profile image. -/
def profileConfig (l : List Byte) : Vector Byte 5 := bytesVec 5 0 ((l.drop 2).take 5)

/-- What is found when a profile is read (R168). -/
inductive ProfileFinding where
  | absent
  | bad
  | configBad
  | stepBad (k : Fin 16)
  | good (entries : Vector StepEntry 16) (config : ScanConfig)
deriving DecidableEq, Repr

/-- The findings of R168 on the bytes of a profile: the configuration first, then the lowest step
image that fails its range check. -/
def readProfile (p : Fin 4) (l : List Byte) : ProfileFinding :=
  match judgeProfile p l with
  | .absent => .absent
  | .bad => .bad
  | .good =>
    match decodeConfig (profileConfig l) with
    | none => .configBad
    | some g =>
      match stepIndices.find? fun k => (decodeStep k (profileStep l k)).isNone with
      | some k => .stepBad k
      | none =>
        .good (Vector.ofFn fun k => (decodeStep k (profileStep l k)).getD resetEntry) g

/-- The plan and configuration are replaced, and the configuration staging group reloaded
(R33, R168). -/
def replacePlan (es : Vector StepEntry 16) (g : ScanConfig) (s : State) : State :=
  { s with plan.entries := es, plan.config := g, plan.configStage := configImage g }

/-- The bytes of the rows of curve `c` (Table 10-1). -/
def curveRowsBytes (n : Store) (c : Fin 4) : List Byte := rowsBytes n (16 + 2 * c.val) 2

/-- Number of breakpoints in a curve image. -/
def imageCount (l : List Byte) : Nat := (l.getD 2 0xFF).toNat

/-- A curve image judged (R163). -/
def judgeCurve (c : Fin 4) (l : List Byte) : Judged :=
  judge Config.tagCurve
    (decide (l.getD 1 0xFF = BitVec.ofNat 8 c) && decide (imageCount l ≤ 24))
    (3 + 5 * imageCount l) l

/-- The breakpoints in a curve image (Table 12-11). -/
def imagePoints (l : List Byte) : List Breakpoint :=
  (List.range (imageCount l)).map fun i => pointOf (l.drop (3 + 5 * i))

/-- The curve that a good image gives, its commit check made (R76). -/
def curveOfImage (l : List Byte) : Curve := loadedCurve (imageCount l) (imagePoints l)

/-- The bytes of row 24. -/
def bootRowBytes (n : Store) : List Byte := rowsBytes n 24 1

/-- What is found when the boot record is read: none is bad, or fields that do not decode
(R166, R173); an absent record gives the defaults. -/
def readBoot (l : List Byte) : Option BootChoices :=
  match judge Config.tagBoot true 5 l with
  | .absent => some defaultChoices
  | .bad => none
  | .good => decodeChoices (bytesVec 4 0 ((l.drop 1).take 4))

/-- The sequence number of an archive row. -/
def rowSeq (img : RowImage) : Nat := leValue (img.toList.take 4)

/-- An archive row is valid: its check matches the other 62 bytes and its record count is 1 to 4
(R162). -/
def rowValid (img : RowImage) : Bool :=
  let l := img.toList
  decide (leValue ((l.drop 6).take 2) = (checkOf (l.take 6 ++ l.drop 8)).toNat)
    && decide (1 ≤ (l.getD 4 0).toNat) && decide ((l.getD 4 0).toNat ≤ 4)

/-- The better of the newest row so far and row `r`: larger sequence number, and of two equal ones
the row found first, which is the lower (R162). -/
def newerRow (n : Store) (best : Option (Fin 64 × Nat)) (r : Fin 64) : Option (Fin 64 × Nat) :=
  let img := rowImageOf n r
  if rowValid img then
    match best with
    | some (b, q) => if q < rowSeq img then some (r, rowSeq img) else some (b, q)
    | none => some (r, rowSeq img)
  else best

/-- The rows of the archive ring in increasing order. -/
def ringRows : List (Fin 64) := (List.range 32).map fun k => rowNo (32 + k)

/-- The newest valid row of the ring and its sequence number (R162). -/
def newestRow (n : Store) : Option (Fin 64 × Nat) := ringRows.foldl (newerRow n) none

end Sys2Proof.Machine
end

