-- ==== Sys2Proof/Machine/StoreCommands.lean ====
section
/-! DEFINITION. The store commands (chapters 8 to 10): a write of the store command byte at 5Dh. -/

namespace Sys2Proof.Machine

/-- The store argument byte held (R140). -/
def storeArgument (s : State) : Byte := s.nvs.argument

/-- A store command refused at its own checks, or an immediate one completed (R142, R143). -/
def storeAnswer (c : StoreCommand) (o : CmdOutcome) (d : Byte) (s : State) : State :=
  storeReply (.command c) o d s

/-- A long command of the host's road is accepted: the record shows the first row, the claim for it
is made, and the arbiter chooses (R144, R146). -/
def acceptLong (c : StoreCommand) (arg : Byte) (r : Fin 64) (img : ClaimImage)
    (rest : List (Fin 64 × RowImage)) (s : State) : State :=
  let t := storeStatus .inProgress (.command c) .ok (BitVec.ofNat 8 r) s
  arbitrate (hostClaims r img
    { t with nvs.road := some { command := c, argument := arg, row := r, rest := rest } })

/-- LOAD ROW r (R134). -/
def doLoadRow (s : State) : State :=
  match asRow (storeArgument s) with
  | none => storeAnswer .loadRow .range (storeArgument s) s
  | some r =>
    storeAnswer .loadRow .ok (storeArgument s)
      { s with nvs.page.data := rowImageOf s.nvs r,
               nvs.page.loaded := Vector.replicate 64 false }

/-- PROGRAM ROW r (R135). -/
def doProgramRow (s : State) : State :=
  match asRow (storeArgument s) with
  | none => storeAnswer .programRow .range (storeArgument s) s
  | some r =>
    if 32 ≤ r.val ∧ s.au.mode ≠ .off then storeAnswer .programRow .range (storeArgument s) s
    else if r.val < 32 ∧ s.pins.wp = true then
      storeAnswer .programRow .prot (storeArgument s) s
    else acceptLong .programRow (storeArgument s) r .merge [] s

/-- LOAD PROFILE p (R168). -/
def doLoadProfile (s : State) : State :=
  match asCurve (storeArgument s) with
  | none => storeAnswer .loadProfile .range (storeArgument s) s
  | some p =>
    if isStopped s then
      match readProfile p (profileRowsBytes s.nvs p) with
      | .absent => storeAnswer .loadProfile .checkFail 254 s
      | .bad => storeAnswer .loadProfile .checkFail 255 s
      | .configBad => storeAnswer .loadProfile .checkFail 16 s
      | .stepBad k => storeAnswer .loadProfile .checkFail (BitVec.ofNat 8 k) s
      | .good es g => storeAnswer .loadProfile .ok (storeArgument s) (replacePlan es g s)
    else storeAnswer .loadProfile .locked (storeArgument s) s

/-- SAVE PROFILE p (R167). -/
def doSaveProfile (s : State) : State :=
  match asCurve (storeArgument s) with
  | none => storeAnswer .saveProfile .range (storeArgument s) s
  | some p =>
    if s.pins.wp then storeAnswer .saveProfile .prot (storeArgument s) s
    else
      let img := profileImage p s.plan.entries s.plan.config
      let row (k : Nat) : Fin 64 × RowImage := (rowNo (4 * p.val + k), rowOfImage img k)
      acceptLong .saveProfile (storeArgument s) (row 0).1 (.fixed (row 0).2)
        [row 1, row 2, row 3] s

/-- LOAD CURVE c (R170). -/
def doLoadCurve (s : State) : State :=
  match asCurve (storeArgument s) with
  | none => storeAnswer .loadCurve .range (storeArgument s) s
  | some c =>
    if isStopped s then
      let l := curveRowsBytes s.nvs c
      match judgeCurve c l with
      | .absent => storeAnswer .loadCurve .checkFail 254 s
      | .bad => storeAnswer .loadCurve .checkFail 255 s
      | .good =>
        let v := curveOfImage l
        match commitCheck v with
        | none => storeAnswer .loadCurve .ok (storeArgument s) (setCurve c v s)
        | some d => storeAnswer .loadCurve .invalid d (setCurve c v s)
    else storeAnswer .loadCurve .locked (storeArgument s) s

/-- SAVE CURVE c (R169). -/
def doSaveCurve (s : State) : State :=
  match asCurve (storeArgument s) with
  | none => storeAnswer .saveCurve .range (storeArgument s) s
  | some c =>
    if s.pins.wp then storeAnswer .saveCurve .prot (storeArgument s) s
    else
      let img := curveImage c s.rcu.curves[c]
      acceptLong .saveCurve (storeArgument s) (rowNo (16 + 2 * c.val))
        (.fixed (rowOfImage img 0)) [(rowNo (17 + 2 * c.val), rowOfImage img 1)] s

/-- SET BOOT (R171). -/
def doSetBoot (s : State) : State :=
  match bootRegisterFault s.nvs.bootStage with
  | some k => storeAnswer .setBoot .range (BitVec.ofNat 8 k) s
  | none =>
    if s.pins.wp then storeAnswer .setBoot .prot 0 s
    else acceptLong .setBoot 0 24 (.fixed (rowOfImage (bootImage s.nvs.bootStage) 0)) [] s

/-- ARCHIVE FLUSH (R153). -/
def doArchiveFlush (s : State) : State :=
  storeAnswer .archiveFlush .ok (BitVec.ofNat 8 s.au.filling.length) (arbitrate (flushFilling s))

/-- The erase claims row `r`, and the record's detail shows it (R159, step 3). -/
def eraseClaim (r : Fin 64) (failed : Option (Fin 64)) (s : State) : State :=
  storeStatus .inProgress (.command .archiveErase) .ok (BitVec.ofNat 8 r)
    (archiveClaims r blankImage { s with au.erase := some { row := some r, failedRow := failed } })

/-- ARCHIVE ERASE (R159, steps 1 to 3): a waiting archive claim is withdrawn; a running archive cycle
runs to its end before the first erase claim. -/
def doArchiveErase (s : State) : State :=
  let t := storeStatus .inProgress (.command .archiveErase) .ok 32
    { s with nvs.archiveClaim := none, au.erase := some { row := none, failedRow := none } }
  if archiveInFlight s then t else arbitrate (eraseClaim 32 none t)

/-- What a store command does once it is neither refused BUSY nor met by the busy refusal. -/
def doStore : StoreCommand → State → State
  | .loadRow => doLoadRow
  | .programRow => doProgramRow
  | .loadProfile => doLoadProfile
  | .saveProfile => doSaveProfile
  | .loadCurve => doLoadCurve
  | .saveCurve => doSaveCurve
  | .setBoot => doSetBoot
  | .archiveFlush => doArchiveFlush
  | .archiveErase => doArchiveErase

/-- A write of the store command byte with any code (R142). -/
def writeStoreCommand (code : Byte) (s : State) : State :=
  match decodeStore code with
  | some c => storeCommand (.command c) (doStore c) s
  | none => storeCommand (.raw code) (storeReply (.raw code) .unknown 0) s

/-- LOAD ROW, written at 5Dh. -/
def execLoadRow (s : State) : Host.Outcome State Fault Refusal :=
  .next (busWrite 0x5D (storeCommand (.command .loadRow) doLoadRow) s)

/-- PROGRAM ROW, written at 5Dh. -/
def execProgramRow (s : State) : Host.Outcome State Fault Refusal :=
  .next (busWrite 0x5D (storeCommand (.command .programRow) doProgramRow) s)

/-- LOAD PROFILE, written at 5Dh. -/
def execLoadProfile (s : State) : Host.Outcome State Fault Refusal :=
  .next (busWrite 0x5D (storeCommand (.command .loadProfile) doLoadProfile) s)

/-- SAVE PROFILE, written at 5Dh. -/
def execSaveProfile (s : State) : Host.Outcome State Fault Refusal :=
  .next (busWrite 0x5D (storeCommand (.command .saveProfile) doSaveProfile) s)

/-- LOAD CURVE, written at 5Dh. -/
def execLoadCurve (s : State) : Host.Outcome State Fault Refusal :=
  .next (busWrite 0x5D (storeCommand (.command .loadCurve) doLoadCurve) s)

/-- SAVE CURVE, written at 5Dh. -/
def execSaveCurve (s : State) : Host.Outcome State Fault Refusal :=
  .next (busWrite 0x5D (storeCommand (.command .saveCurve) doSaveCurve) s)

/-- SET BOOT, written at 5Dh. -/
def execSetBoot (s : State) : Host.Outcome State Fault Refusal :=
  .next (busWrite 0x5D (storeCommand (.command .setBoot) doSetBoot) s)

/-- ARCHIVE FLUSH, written at 5Dh. -/
def execArchiveFlush (s : State) : Host.Outcome State Fault Refusal :=
  .next (busWrite 0x5D (storeCommand (.command .archiveFlush) doArchiveFlush) s)

/-- ARCHIVE ERASE, written at 5Dh. -/
def execArchiveErase (s : State) : Host.Outcome State Fault Refusal :=
  .next (busWrite 0x5D (storeCommand (.command .archiveErase) doArchiveErase) s)

/-- A store command byte written at 5Dh; a well-formed one names no command (R142), and a code that
does name one is that command (log 8). -/
def execUnknownStoreCommand (code : Byte) (s : State) : Host.Outcome State Fault Refusal :=
  .next (busWrite 0x5D (writeStoreCommand code) s)

end Sys2Proof.Machine
end

