-- ==== Sys2Proof/Machine/CycleEnd.lean ====
section
/-! DEFINITION. The end of a program attempt, and what a cycle's end means to its owner (R131, R144,
R147, R155, R156, R159). -/

namespace Sys2Proof.Machine

/-- A long command of the host's road ends: its record, its claims, and STORE_DONE (R144); the loaded
marks are cleared at the end of a PROGRAM ROW (R135). -/
def endRoad (h : HostRoad) (o : CmdOutcome) (d : Byte) (s : State) : State :=
  let t := storeStatus .idle (.command h.command) o d s
  raise .storeDone
    { t with
      nvs.road := none
      nvs.page.loaded :=
        if h.command = .programRow then Vector.replicate 64 false else s.nvs.page.loaded }

/-- The host's command hears of the end of its row's cycle (R144): it claims its next row, or ends. -/
def hostRowEnd (ok : Bool) (s : State) : State :=
  match s.nvs.road with
  | none => s
  | some h =>
    if ok then
      match h.rest with
      | (r, img) :: rest =>
        let t := storeStatus .inProgress (.command h.command) .ok (BitVec.ofNat 8 r) s
        hostClaims r (.fixed img) { t with nvs.road := some { h with row := r, rest := rest } }
      | [] => endRoad h .ok h.argument s
    else endRoad h .verifyFail (BitVec.ofNat 8 h.row) s

/-- An ARCHIVE ERASE ends: pointer, sequence and FULL, the record, STORE_DONE, and then the claim of
a COMMITTED buffer for row 32 (R159, steps 5 and 6). -/
def eraseEnd (failed : Option (Fin 64)) (s : State) : State :=
  let t : State :=
    { s with
      au.writePointer := 32
      au.nextSeq := 1
      au.full := false
      au.erase := none }
  let u :=
    match failed with
    | none => storeStatus .idle (.command .archiveErase) .ok 0 t
    | some r => storeStatus .idle (.command .archiveErase) .verifyFail (BitVec.ofNat 8 r) t
  let w := raise .storeDone u
  if w.au.committed.isSome then claimCommitted w else tryCommit w

/-- The end of an erase row's cycle (R159, steps 3 to 5). -/
def eraseRowEnd (ok : Bool) (r : Fin 64) (failed : Option (Fin 64)) (s : State) : State :=
  let f := if ok then failed else failed.or (some r)
  if r = 63 then eraseEnd f s else eraseClaim (r + 1) f s

/-- The end of a row claim of the AU (R155, R156). -/
def archiveRowEnd (ok : Bool) (s : State) : State :=
  if ok then archiveRowOk s else archiveRowFailed s

/-- The AU hears of the end of its cycle: a row claim, an erase row, or the row claim that an erase
waited for (R159, step 2). -/
def archiveCycleEnd (ok : Bool) (s : State) : State :=
  match s.au.erase with
  | none => archiveRowEnd ok s
  | some e =>
    match e.row with
    | none => eraseClaim 32 e.failedRow (archiveRowEnd ok s)
    | some r => eraseRowEnd ok r e.failedRow s

/-- The end is reported to the claimant that the owner field names (R131). -/
def reportEnd (ok : Bool) (s : State) : State :=
  match s.nvs.engine.owner with
  | .host => hostRowEnd ok s
  | .archive => archiveCycleEnd ok s

/-- The cycle ends: an OK row becomes COMPLETE with the image, the engine enters IDLE (R131). -/
def endCycle (ok : Bool) (n : Store) : Store :=
  let m := if ok then completeRow n.engine.row n.engine.image n else n
  { m with engine := { n.engine with busy := false } }

/-- An attempt ends with its verdict (R131); the end is reported before the arbiter's choice
(R147). -/
def attemptEnd (pass : Bool) (s : State) : State :=
  if !s.nvs.engine.busy then s
  else if !pass && !s.nvs.engine.second then { s with nvs.engine.second := true }
  else arbitrate (reportEnd pass { s with nvs := endCycle pass s.nvs })

/-- PROGRAM_ATTEMPT_END. -/
def execProgramAttemptEnd (pass : Bool) (s : State) : Host.Outcome State Fault Refusal :=
  .next (attemptEnd pass s)

end Sys2Proof.Machine
end

