-- ==== Sys2Proof/Machine/Lines.lean ====
section
/-! DEFINITION. The lines beside the port, full reset and start-up (R49, R139, R173, R174, R180,
R181). -/

namespace Sys2Proof.Machine

/-! ## TRG and WP -/

/-- An edge on TRG; of the selected polarity and with LINE a source, it is a trigger (R49). -/
def lineEdge (e : Polarity) (s : State) : State :=
  let t : State := { s with pins.trg := decide (e = .rising) }
  if s.plan.config.line && decide (e = s.plan.config.edge) then takeTrigger t else t

/-- WP changes; only its live level in the store status byte follows (R139). -/
def changeWp (asserted : Bool) (s : State) : State := { s with pins.wp := asserted }

/-! ## Full reset -/

/-- The frame after a full reset: with CSN low the rest of the frame is ignored (R180). -/
def frameInReset (f : Frame) : Frame := if f = .idle then .idle else .ignored

/-- The part in full reset: every field at its reset value but the rows and their completion marks,
which persist (R127), the levels of the lines, and the commands that wait. -/
def enterReset (s : State) : State :=
  { State.reset with
    port := { frame := frameInReset s.port.frame, sdo := none }
    pins := s.pins
    nvs := { State.reset.nvs with cells := s.nvs.cells, complete := s.nvs.complete }
    pending := s.pending }

/-! ## Start-up -/

/-- Progress when BOOTING begins. -/
def bootBegin : BootProgress where
  stage := 0
  newest63 := false
  choices := defaultChoices
  autostart := false

/-- The sequence number that follows a newest row of sequence `q` (R162). -/
def seqAfter (q : Nat) : Word32 := if q = 0xFFFFFFFF then 0xFFFFFFFF else BitVec.ofNat 32 (q + 1)

/-- Step 1: ring recovery (R162, R173). -/
def bootRing (b : BootProgress) (s : State) : State :=
  match newestRow s.nvs with
  | some (r, q) =>
    let t : State :=
      { s with
        power := .booting { b with stage := 1, newest63 := decide (r = 63) }
        au.writePointer := ringNext r
        au.nextSeq := seqAfter q }
    if q = 0xFFFFFFFF then setFull t else t
  | none =>
    { s with
      power := .booting { b with stage := 1, newest63 := false }
      au.writePointer := 32
      au.nextSeq := 1 }

/-- Step 2 for one curve (R173). -/
def bootCurve (c : Fin 4) (s : State) : State :=
  let l := curveRowsBytes s.nvs c
  match judgeCurve c l with
  | .absent => s
  | .bad => raise .bootFault s
  | .good => setCurve c (curveOfImage l) s

/-- Step 2: curves 0, 1, 2 and 3 in turn (R173). -/
def bootCurves (b : BootProgress) (s : State) : State :=
  { bootCurve 3 (bootCurve 2 (bootCurve 1 (bootCurve 0 s))) with
    power := .booting { b with stage := 2 } }

/-- Step 3: the boot record, or the defaults, into the choices and the boot staging registers
(R173). -/
def bootRecord (b : BootProgress) (s : State) : State :=
  let found := readBoot (bootRowBytes s.nvs)
  let ch := found.getD defaultChoices
  raiseIf found.isNone .bootFault
    { s with
      power := .booting { b with stage := 3, choices := ch, autostart := ch.autostart }
      nvs.bootStage := bootRegisters ch }

/-- Step 4: the boot profile; a failure raises BOOT_FAULT and cancels autostart (R174). -/
def bootProfile (b : BootProgress) (s : State) : State :=
  match b.choices.profile with
  | none => { s with power := .booting { b with stage := 4 } }
  | some p =>
    match readProfile p (profileRowsBytes s.nvs p) with
    | .good es g => { replacePlan es g s with power := .booting { b with stage := 4 } }
    | _ => raise .bootFault { s with power := .booting { b with stage := 4, autostart := false } }

/-- Step 5: archive mode and flush option; a ring found full in FILL mode sets FULL (R162, R174). -/
def bootArchive (b : BootProgress) (s : State) : State :=
  let t : State :=
    { s with
      power := .booting { b with stage := 5 }
      au.mode := b.choices.mode
      au.flushAtEnd := b.choices.flush }
  if b.choices.mode = .fill ∧ b.newest63 = true then setFull t else t

/-- Step 6: autostart, one action with leaving BOOTING (R174). -/
def bootArm (b : BootProgress) (s : State) : State :=
  let t : State := { s with power := .running }
  if b.autostart then
    match validatePlan s with
    | some _ => raise .bootFault t
    | none => immediateTrigger (enterArmed t)
  else t

/-- The next step of start-up; nothing outside BOOTING. -/
def bootStep (s : State) : State :=
  match s.power with
  | .booting b =>
    match b.stage with
    | 0 => bootRing b s
    | 1 => bootCurves b s
    | 2 => bootRecord b s
    | 3 => bootProfile b s
    | 4 => bootArchive b s
    | _ => bootArm b s
  | _ => s

/-- Up to `n` steps of start-up. -/
def bootSteps : Nat → State → State
  | 0, s => s
  | n + 1, s => bootSteps n (bootStep s)

/-- The end of a full reset begins BOOTING (R173). -/
def leaveReset (s : State) : State :=
  if isHeld s then { s with power := .booting bootBegin } else s

/-- TRG_EDGE. -/
def execTrgEdge (e : Polarity) (s : State) : Host.Outcome State Fault Refusal :=
  .next (lineEdge e s)

/-- WP_CHANGE. -/
def execWpChange (asserted : Bool) (s : State) : Host.Outcome State Fault Refusal :=
  .next (changeWp asserted s)

/-- FULL_RESET. -/
def execFullReset (s : State) : Host.Outcome State Fault Refusal := .next (enterReset s)

/-- START_UP. -/
def execStartUp (steps : Nat) (s : State) : Host.Outcome State Fault Refusal :=
  .next (bootSteps steps (leaveReset s))

end Sys2Proof.Machine
end

