-- ==== Sys2Proof/Machine/MeasCommands.lean ====
section
/-! DEFINITION. The measurement commands (chapter 3; R108, R109, R84): a write of the measurement
command byte at 04h. -/

namespace Sys2Proof.Machine

/-- The measurement argument byte held (R43). -/
def measArgument (s : State) : Byte := s.sc.argument

/-- ARM (R47, R48). -/
def doArm (s : State) : State :=
  if isStopped s then
    match validatePlan s with
    | some d => measReply (.command .arm) .invalid d s
    | none => immediateTrigger (measReply (.command .arm) .ok 0 (enterArmed s))
  else measReply (.command .arm) .state 0 s

/-- STOP (R62). -/
def doStop (s : State) : State :=
  let t :=
    match s.sc.state with
    | .stopped => s
    | .armed => enterStopped s
    | .running _ false => { enterStopped s with sc.fromLatch := false }
    | .running _ true => enterStopped (closeScan .stopped (abandon s))
  measReply (.command .stop) .ok 0 t

/-- TRIGGER (R51). -/
def doTrigger (s : State) : State :=
  match s.sc.state with
  | .stopped => measReply (.command .trigger) .state 0 s
  | .armed => measReply (.command .trigger) .ok 0 (takeTrigger s)
  | .running _ _ =>
    measReply (.command .trigger) .ok (if s.sc.pending then 2 else 1) (takeTrigger s)

/-- RESET SCAN (R64). -/
def doResetScan (s : State) : State :=
  let t := resetLimits (emptyQueue (enterStopped (abandon s)))
  measReply (.command .resetScan) .ok 0
    { t with
      sc.fromLatch := false
      sc.late := false
      sc.scanNumber := 0
      sc.converted := 0
      sc.faulted := 0 }

/-- POP (R65, R108). -/
def doPop (s : State) : State :=
  reexamine (measReply (.command .pop) .ok 0 (removeHead s))

/-- CLEAR QUEUE (R65, R109). -/
def doClearQueue (s : State) : State :=
  reexamine (measReply (.command .clearQueue) .ok 0 (emptyQueue s))

/-- COMMIT CURVE c (R65, R84). -/
def doCommitCurve (s : State) : State :=
  match asCurve (measArgument s) with
  | none => measReply (.command .commitCurve) .range (measArgument s) s
  | some c =>
    if isStopped s then
      let v := s.rcu.curves[c]
      let t := setCurve c (committed v) s
      match commitCheck v with
      | none => measReply (.command .commitCurve) .ok (BitVec.ofNat 8 c) t
      | some d => measReply (.command .commitCurve) .invalid d t
    else measReply (.command .commitCurve) .state 0 s

/-- What a measurement command does outside BOOTING (Table 3-3). -/
def doMeas : MeasCommand → State → State
  | .arm => doArm
  | .stop => doStop
  | .trigger => doTrigger
  | .resetScan => doResetScan
  | .pop => doPop
  | .clearQueue => doClearQueue
  | .commitCurve => doCommitCurve

/-- A write of the measurement command byte with any code (R43, R45, R46). -/
def writeMeasCommand (code : Byte) (s : State) : State :=
  match decodeMeas code with
  | some c => measCommand (.command c) (doMeas c) s
  | none => measCommand (.raw code) (measReply (.raw code) .unknown 0) s

/-- ARM, written at 04h. -/
def execArm (s : State) : Host.Outcome State Fault Refusal :=
  .next (busWrite 0x04 (measCommand (.command .arm) doArm) s)

/-- STOP, written at 04h. -/
def execStop (s : State) : Host.Outcome State Fault Refusal :=
  .next (busWrite 0x04 (measCommand (.command .stop) doStop) s)

/-- TRIGGER, written at 04h. -/
def execTrigger (s : State) : Host.Outcome State Fault Refusal :=
  .next (busWrite 0x04 (measCommand (.command .trigger) doTrigger) s)

/-- RESET SCAN, written at 04h. -/
def execResetScan (s : State) : Host.Outcome State Fault Refusal :=
  .next (busWrite 0x04 (measCommand (.command .resetScan) doResetScan) s)

/-- POP, written at 04h. -/
def execPop (s : State) : Host.Outcome State Fault Refusal :=
  .next (busWrite 0x04 (measCommand (.command .pop) doPop) s)

/-- CLEAR QUEUE, written at 04h. -/
def execClearQueue (s : State) : Host.Outcome State Fault Refusal :=
  .next (busWrite 0x04 (measCommand (.command .clearQueue) doClearQueue) s)

/-- COMMIT CURVE, written at 04h. -/
def execCommitCurve (s : State) : Host.Outcome State Fault Refusal :=
  .next (busWrite 0x04 (measCommand (.command .commitCurve) doCommitCurve) s)

/-- A measurement command byte written at 04h; a well-formed one names no command (R46), and a code
that does name one is that command (log 8). -/
def execUnknownMeasurementCommand (code : Byte) (s : State) : Host.Outcome State Fault Refusal :=
  .next (busWrite 0x04 (writeMeasCommand code) s)

end Sys2Proof.Machine
end

