-- ==== Sys2Proof/Machine/Windows.lean ====
section
/-! DEFINITION. The register window (chapters 11 and 12): what each address reads, which reads latch,
and what a write to each address does. -/

namespace Sys2Proof.Machine

/-! ## Status bytes and groups (Tables 12-5 and 12-6) -/

/-- A byte of eight bits, bit 0 first. -/
def bits8 (b0 b1 b2 b3 b4 b5 b6 b7 : Bool) : Byte :=
  BitVec.ofBoolListLE [b0, b1, b2, b3, b4, b5, b6, b7]

/-- The scan status byte, 00h. -/
def scanStatusByte (s : State) : Byte :=
  let armed := decide (s.sc.state = .armed)
  let run := !isStopped s && !armed
  let wait :=
    match s.sc.state with
    | .running .waitSpace _ => true
    | _ => false
  bits8 armed run wait s.sc.pending (planLocked s) false false (isBooting s)

/-- The current step byte, 02h: FFh is none. -/
def currentByte (s : State) : Byte := pairCode s.sc.current

/-- The curve status byte, 38h. -/
def curveStatusByte (s : State) : Byte :=
  bits8 s.rcu.curves[0].valid s.rcu.curves[1].valid s.rcu.curves[2].valid s.rcu.curves[3].valid
    false false false false

/-- Byte `k` of the limit status group for a copy of the states. -/
def limitStatusByte (v : Vector LimitState 16) (k : Fin 4) : Byte :=
  let c (i : Nat) : Byte := (limitCode (v.toList.getD (4 * k.val + i) .unknown)).setWidth 8
  c 0 ||| (c 1 <<< 2) ||| (c 2 <<< 4) ||| (c 3 <<< 6)

/-- The queue status byte, 3Eh. -/
def queueStatusByte (s : State) : Byte :=
  bits8 s.rq.gapPending (watermarkHolds s) false false false false false false

/-- The store status byte, 5Bh (R145). -/
def storeStatusByte (s : State) : Byte :=
  bits8 (storeBusy s) s.nvs.engine.busy (decide (s.nvs.engine.owner = .archive))
    s.nvs.hostClaim.isSome s.nvs.archiveClaim.isSome s.pins.wp false false

/-- The archive control register as it reads back, 6Bh (R149). -/
def archiveControlByte (a : ArchiveUnit) : Byte :=
  (archiveModeCode a.mode).setWidth 8 ||| (flagByte a.flushAtEnd <<< 4)

/-- Code of the activity (Table 12-6). -/
def activityCode : Activity → Byte
  | .idle => 0
  | .waiting => 1
  | .programming => 2
  | .erasing => 3

/-- The seven bytes of the archive status group (R161, Table 12-6). -/
def archiveStatusBytes (s : State) : List Byte :=
  [activityCode (activity s) ||| (flagByte s.au.full <<< 2) ||| (flagByte s.au.flushPending <<< 3)
      ||| (flagByte s.au.failedOnce <<< 4) ||| (BitVec.ofNat 8 s.au.fillingIndex <<< 5)
      ||| (flagByte s.au.committed.isSome <<< 6),
   BitVec.ofNat 8 (bufferRecords s.au 0).length
      ||| (BitVec.ofNat 8 (bufferRecords s.au 1).length <<< 4),
   BitVec.ofNat 8 s.au.writePointer] ++ leBytes 4 s.au.nextSeq

/-- The breakpoint count that the count byte reads: that of the selected curve, or 00h (R78). -/
def countByte (s : State) : Byte :=
  match asCurve s.rcu.select with
  | some c => BitVec.ofNat 8 s.rcu.curves[c].count
  | none => 0

/-- The three bytes of the measurement command status record. -/
def measStatusBytes (r : MeasStatus) : List Byte :=
  [measLastCode r.last, outcomeCode r.outcome, r.detail]

/-- The three bytes of the curve edit status record. -/
def editStatusBytes (r : EditStatus) : List Byte :=
  [editLastCode r.last, outcomeCode r.outcome, r.detail]

/-- The four bytes of the store command status record. -/
def storeStatusBytes (r : StoreStatus) : List Byte :=
  [phaseCode r.phase, storeLastCode r.last, outcomeCode r.outcome, r.detail]

/-- What the addresses 00h to 72h read, in the order of Table 12-4; a latching byte and a port read
what stands after the effects of the read. -/
def windowBytes (s : State) : List Byte :=
  [scanStatusByte s, s.sc.scanNumber, currentByte s, s.sc.argument, 0]
    ++ measStatusBytes s.sc.status
    ++ leBytes 4 s.tb.copy
    ++ [s.plan.stepIndex] ++ s.plan.stepStage.toList
    ++ [s.plan.viewIndex] ++ s.plan.viewCopy.toList
    ++ s.plan.configStage.toList
    ++ [s.rcu.select, s.rcu.index] ++ s.rcu.entryCopy.toList ++ [countByte s]
    ++ editStatusBytes s.rcu.editStatus
    ++ [curveStatusByte s]
    ++ [limitStatusByte s.lw.copy 0, limitStatusByte s.lw.copy 1, limitStatusByte s.lw.copy 2,
        limitStatusByte s.lw.copy 3]
    ++ [BitVec.ofNat 8 (level s), queueStatusByte s, BitVec.ofNat 8 s.rq.watermark]
    ++ headBytes s.rq.headCopy
    ++ [groupByteOf s.ev.copy .first, groupByteOf s.ev.copy .second, 0, 0,
        groupByteOf s.ev.enable .first, groupByteOf s.ev.enable .second]
    ++ [storeStatusByte s, s.nvs.argument, 0]
    ++ storeStatusBytes s.nvs.status
    ++ [BitVec.ofNat 8 s.nvs.page.pointer, s.nvs.page.data[s.nvs.page.pointer]]
    ++ leBytes 2 s.nvs.readCopy
    ++ [storeByte s.nvs s.nvs.readPointer]
    ++ s.nvs.bootStage.toList
    ++ [archiveControlByte s.au]
    ++ s.au.copy.toList

/-- The byte that an address reads; 00h at an unassigned address (R179, R183). -/
def readValue (a : Addr) (s : State) : Byte := (windowBytes s).getD a.toNat 0

/-! ## Latches -/

/-- A read of the first step view byte (R32). -/
def latchStepView (s : State) : State :=
  { s with plan.viewCopy :=
      match asStep s.plan.viewIndex with
      | some j => stepImage s.plan.entries[j]
      | none => Vector.replicate 13 0 }

/-- A read of the first time group byte (R67). -/
def latchTime (s : State) : State := { s with tb.copy := s.tb.count }

/-- The breakpoint that the curve entry window names, as five bytes; 00h where it names none
(R78). -/
def namedPoint (s : State) : List Byte :=
  match asCurve s.rcu.select with
  | some c =>
    if h : s.rcu.index.toNat < 24 then pointBytes s.rcu.curves[c].points[s.rcu.index.toNat]
    else List.replicate 5 0
  | none => List.replicate 5 0

/-- A read of the first curve entry byte (R78). -/
def latchCurveEntry (s : State) : State :=
  { s with rcu.entryCopy := bytesVec 5 0 (namedPoint s) }

/-- A read of the first limit status byte (R96). -/
def latchLimits (s : State) : State :=
  { s with lw.copy := Vector.ofFn fun j => s.lw.records[j].state }

/-- A read of the first head window byte (R107). -/
def latchHead (s : State) : State := { s with rq.headCopy := s.rq.records.head? }

/-- A read of the first event flag byte (R118). -/
def latchFlags (s : State) : State := { s with ev.copy := s.ev.flags }

/-- A read of the first read pointer byte (R138). -/
def latchReadPointer (s : State) : State := { s with nvs.readCopy := s.nvs.readPointer }

/-- A read of the first archive status byte (R161). -/
def latchArchive (s : State) : State :=
  { s with au.copy := bytesVec 7 0 (archiveStatusBytes s) }

/-- A read of the read port: the byte at the read pointer, and the pointer advances (R138). -/
def readPort (s : State) : State × Byte :=
  ({ s with nvs.readPointer := s.nvs.readPointer + 1 }, storeByte s.nvs s.nvs.readPointer)

/-- A latch, and the byte that the address then reads. -/
def latchRead (a : Addr) (latch : State → State) (s : State) : State × Byte :=
  (latch s, readValue a (latch s))

/-- One complete read of an address, with its effects (R177, Table 12-4). -/
def readAddress (a : Addr) (s : State) : State × Byte :=
  if a = 0x08 then latchRead a latchTime s
  else if a = 0x1B then latchRead a latchStepView s
  else if a = 0x2F then latchRead a latchCurveEntry s
  else if a = 0x39 then latchRead a latchLimits s
  else if a = 0x40 then latchRead a latchHead s
  else if a = 0x55 then latchRead a latchFlags s
  else if a = 0x64 then latchRead a latchReadPointer s
  else if a = 0x66 then readPort s
  else if a = 0x6C then latchRead a latchArchive s
  else (s, readValue a s)

/-! ## Committing writes -/

/-- A byte stored in a staging group. -/
def setByte {n : Nat} (v : Vector Byte n) (i : Nat) (b : Byte) : Vector Byte n :=
  if h : i < n then v.set i b else v

/-- The step write (R30), the last image byte having been stored. -/
def commitStep (s : State) : State :=
  if planLocked s then measReply .stepWrite .locked s.plan.stepIndex s
  else
    match asStep s.plan.stepIndex with
    | none => measReply .stepWrite .range s.plan.stepIndex s
    | some j =>
      match decodeStep j s.plan.stepStage with
      | none => measReply .stepWrite .range s.plan.stepIndex s
      | some e =>
        measReply .stepWrite .ok s.plan.stepIndex
          { s with plan.entries := s.plan.entries.set j e }

/-- A write of the last step image byte (R29, R30); ignored during BOOTING (R34). -/
def doStepWrite (v : Byte) (s : State) : State :=
  unlessBooting (fun s => commitStep { s with plan.stepStage := setByte s.plan.stepStage 12 v }) s

/-- The configuration staging group is reloaded from the record in force (R33). -/
def reloadConfig (s : State) : State :=
  { s with plan.configStage := configImage s.plan.config }

/-- The configuration write (R33), the fifth byte having been stored. -/
def commitConfig (s : State) : State :=
  if planLocked s then measReply .configWrite .locked 16 (reloadConfig s)
  else
    match decodeConfig s.plan.configStage with
    | none => measReply .configWrite .range 16 (reloadConfig s)
    | some g => measReply .configWrite .ok 16 { s with plan.config := g }

/-- A write of the fifth configuration staging byte (R33); ignored during BOOTING (R34). -/
def doConfigWrite (v : Byte) (s : State) : State :=
  unlessBooting
    (fun s => commitConfig { s with plan.configStage := setByte s.plan.configStage 4 v }) s

/-- The time set (R68), the fourth byte having been stored. -/
def commitTime (s : State) : State :=
  { s with tb.count := BitVec.ofNat 32 (leValue s.tb.stage.toList) }

/-- A write of the fourth time group byte (R68); ignored during BOOTING. -/
def doTimeSet (v : Byte) (s : State) : State :=
  unlessBooting (fun s => commitTime { s with tb.stage := setByte s.tb.stage 3 v }) s

/-- The decisions 1 to 3 of an edit (R79, R80), followed by the rest of it for the selected curve. -/
def editCurve (last : EditLast) (act : Fin 4 → State → State) (s : State) : State :=
  if !isStopped s then editReply last .locked s.rcu.select s
  else
    match asCurve s.rcu.select with
    | none => editReply last .range s.rcu.select s
    | some c =>
      if curveSaveClaim c s then editReply last .locked (BitVec.ofNat 8 c) s else act c s

/-- An entry write stored into curve `c` (R79, steps 4 and 5). -/
def storeEntry (c : Fin 4) (s : State) : State :=
  let v := s.rcu.curves[c]
  if h : s.rcu.index.toNat < 24 then
    editReply .entryWrite .ok (BitVec.ofNat 8 c)
      (setCurve c
        { v with points := v.points.set s.rcu.index.toNat (pointOf s.rcu.entryStage.toList),
                 valid := false } s)
  else editReply .entryWrite .range s.rcu.index s

/-- A write of the last curve entry byte (R78, R79); ignored during BOOTING (R82). -/
def doEntryWrite (v : Byte) (s : State) : State :=
  unlessBooting
    (fun s => editCurve .entryWrite storeEntry
      { s with rcu.entryStage := setByte s.rcu.entryStage 4 v }) s

/-- A count write stored into curve `c` (R80, steps 4 and 5). -/
def storeCount (c : Fin 4) (s : State) : State :=
  if s.rcu.countStage.toNat ≤ 24 then
    editReply .countWrite .ok (BitVec.ofNat 8 c)
      (setCurve c { s.rcu.curves[c] with count := s.rcu.countStage.toNat, valid := false } s)
  else editReply .countWrite .range s.rcu.countStage s

/-- A write of the count byte (R78, R80); ignored during BOOTING (R82). -/
def doCountWrite (v : Byte) (s : State) : State :=
  unlessBooting
    (fun s => editCurve .countWrite storeCount { s with rcu.countStage := v }) s

/-- A write of the watermark register (R112); ignored during BOOTING. -/
def doWatermarkWrite (v : Byte) (s : State) : State := unlessBooting (writeWatermark v) s

/-- A write to an event clear byte (R119); ignored during BOOTING. -/
def doEventClear (g : GroupByte) (v : Byte) (s : State) : State :=
  unlessBooting (clearFlags (groupWord g v)) s

/-- A write to an event enable byte (R125); ignored during BOOTING. -/
def doEventEnable (g : GroupByte) (v : Byte) (s : State) : State :=
  unlessBooting (writeEnable g v) s

/-- A byte stored and marked at the load pointer, which advances (R133). -/
def loadByte (v : Byte) (p : PageBuffer) : PageBuffer where
  data := p.data.set p.pointer v
  loaded := p.loaded.set p.pointer true
  pointer := p.pointer + 1

/-- A write to the load port (R133); refused with CMD_REJECT during a PROGRAM ROW (R136), ignored
during BOOTING. -/
def doLoadPort (v : Byte) (s : State) : State :=
  unlessBooting
    (fun s =>
      if programRowInProgress s then raise .cmdReject s
      else { s with nvs.page := loadByte v s.nvs.page }) s

/-- The read pointer is set from the staging bytes when their value is 0 to 4095 (R138). -/
def commitReadPointer (s : State) : State :=
  let w := leValue s.nvs.readStage.toList
  if w < 4096 then { s with nvs.readPointer := BitVec.ofNat 12 w } else s

/-- A write of the second read pointer byte (R138); ignored during BOOTING. -/
def doReadPointerSet (v : Byte) (s : State) : State :=
  unlessBooting
    (fun s => commitReadPointer { s with nvs.readStage := setByte s.nvs.readStage 1 v }) s

/-- A write of the archive control register (R149); ignored during BOOTING. -/
def doArchiveControl (v : Byte) (s : State) : State :=
  unlessBooting
    (fun s =>
      match decodeArchiveMode (v.setWidth 2) with
      | some m => { s with au.mode := m, au.flushAtEnd := v.getLsbD 4 }
      | none => s) s

/-! ## Plain writes -/

/-- A write of the load pointer register (R133). -/
def writeLoadPointer (v : Byte) (s : State) : State :=
  match asRow v with
  | some p => { s with nvs.page.pointer := p }
  | none => s

/-- A write to an address whose byte is only stored, or is ignored (R178, R179): the staging bytes
before a committing byte, select and index bytes, the load pointer, the boot staging registers. -/
def storePlain (a : Addr) (v : Byte) (s : State) : State :=
  let n := a.toNat
  if n < 0x08 then s
  else if n < 0x0B then { s with tb.stage := setByte s.tb.stage (n - 0x08) v }
  else if n = 0x0C then { s with plan.stepIndex := v }
  else if 0x0D ≤ n ∧ n < 0x19 then
    { s with plan.stepStage := setByte s.plan.stepStage (n - 0x0D) v }
  else if n = 0x1A then { s with plan.viewIndex := v }
  else if 0x28 ≤ n ∧ n < 0x2C then
    { s with plan.configStage := setByte s.plan.configStage (n - 0x28) v }
  else if n = 0x2D then { s with rcu.select := v }
  else if n = 0x2E then { s with rcu.index := v }
  else if 0x2F ≤ n ∧ n < 0x33 then
    { s with rcu.entryStage := setByte s.rcu.entryStage (n - 0x2F) v }
  else if n = 0x62 then writeLoadPointer v s
  else if n = 0x64 then { s with nvs.readStage := setByte s.nvs.readStage 0 v }
  else if 0x67 ≤ n ∧ n < 0x6B then
    { s with nvs.bootStage := setByte s.nvs.bootStage (n - 0x67) v }
  else s

/-- One write of an address with its effects (Table 12-4). The argument bytes take their writes
during BOOTING too (R45, R180); the command bytes answer BUSY; every other write is ignored then. -/
def writeAddress (a : Addr) (v : Byte) (s : State) : State :=
  if a = 0x03 then { s with sc.argument := v }
  else if a = 0x04 then writeMeasCommand v s
  else if a = 0x0B then doTimeSet v s
  else if a = 0x19 then doStepWrite v s
  else if a = 0x2C then doConfigWrite v s
  else if a = 0x33 then doEntryWrite v s
  else if a = 0x34 then doCountWrite v s
  else if a = 0x3F then doWatermarkWrite v s
  else if a = 0x57 then doEventClear .first v s
  else if a = 0x58 then doEventClear .second v s
  else if a = 0x59 then doEventEnable .first v s
  else if a = 0x5A then doEventEnable .second v s
  else if a = 0x5C then { s with nvs.argument := v }
  else if a = 0x5D then writeStoreCommand v s
  else if a = 0x63 then doLoadPort v s
  else if a = 0x65 then doReadPointerSet v s
  else if a = 0x6B then doArchiveControl v s
  else unlessBooting (storePlain a v) s

/-! ## The commands -/

/-- STEP WRITE, at 19h. -/
def execStepWrite (v : Byte) (s : State) : Host.Outcome State Fault Refusal :=
  .next (busWrite 0x19 (doStepWrite v) s)

/-- CONFIG WRITE, at 2Ch. -/
def execConfigWrite (v : Byte) (s : State) : Host.Outcome State Fault Refusal :=
  .next (busWrite 0x2C (doConfigWrite v) s)

/-- A read of 1Bh. -/
def execStepViewLatch (s : State) : Host.Outcome State Fault Refusal :=
  .next (busFetch 0x1B (latchRead 0x1B latchStepView) s)

/-- A read of 08h. -/
def execTimeLatch (s : State) : Host.Outcome State Fault Refusal :=
  .next (busFetch 0x08 (latchRead 0x08 latchTime) s)

/-- A write of 0Bh. -/
def execTimeSet (v : Byte) (s : State) : Host.Outcome State Fault Refusal :=
  .next (busWrite 0x0B (doTimeSet v) s)

/-- A write of 33h. -/
def execEntryWrite (v : Byte) (s : State) : Host.Outcome State Fault Refusal :=
  .next (busWrite 0x33 (doEntryWrite v) s)

/-- A write of 34h. -/
def execCountWrite (v : Byte) (s : State) : Host.Outcome State Fault Refusal :=
  .next (busWrite 0x34 (doCountWrite v) s)

/-- A read of 2Fh. -/
def execCurveEntryLatch (s : State) : Host.Outcome State Fault Refusal :=
  .next (busFetch 0x2F (latchRead 0x2F latchCurveEntry) s)

/-- A read of 39h. -/
def execLimitStatusLatch (s : State) : Host.Outcome State Fault Refusal :=
  .next (busFetch 0x39 (latchRead 0x39 latchLimits) s)

/-- A write of 3Fh. -/
def execWatermarkWrite (v : Byte) (s : State) : Host.Outcome State Fault Refusal :=
  .next (busWrite 0x3F (doWatermarkWrite v) s)

/-- A read of 40h. -/
def execHeadWindowLatch (s : State) : Host.Outcome State Fault Refusal :=
  .next (busFetch 0x40 (latchRead 0x40 latchHead) s)

/-- A read of 55h. -/
def execEventFlagLatch (s : State) : Host.Outcome State Fault Refusal :=
  .next (busFetch 0x55 (latchRead 0x55 latchFlags) s)

/-- The address of an event clear byte. -/
def clearAddress : GroupByte → Addr
  | .first => 0x57
  | .second => 0x58

/-- The address of an event enable byte. -/
def enableAddress : GroupByte → Addr
  | .first => 0x59
  | .second => 0x5A

/-- A write of 57h or 58h. -/
def execEventClear (which : GroupByte) (v : Byte) (s : State) :
    Host.Outcome State Fault Refusal :=
  .next (busWrite (clearAddress which) (doEventClear which v) s)

/-- A write of 59h or 5Ah. -/
def execEventEnableWrite (which : GroupByte) (v : Byte) (s : State) :
    Host.Outcome State Fault Refusal :=
  .next (busWrite (enableAddress which) (doEventEnable which v) s)

/-- A write of 63h. -/
def execLoadPortWrite (v : Byte) (s : State) : Host.Outcome State Fault Refusal :=
  .next (busWrite 0x63 (doLoadPort v) s)

/-- A write of 65h. -/
def execReadPointerSet (v : Byte) (s : State) : Host.Outcome State Fault Refusal :=
  .next (busWrite 0x65 (doReadPointerSet v) s)

/-- A read of 64h. -/
def execReadPointerLatch (s : State) : Host.Outcome State Fault Refusal :=
  .next (busFetch 0x64 (latchRead 0x64 latchReadPointer) s)

/-- A read of 66h. -/
def execReadPortRead (s : State) : Host.Outcome State Fault Refusal :=
  .next (busFetch 0x66 readPort s)

/-- A write of 6Bh. -/
def execArchiveControlWrite (v : Byte) (s : State) : Host.Outcome State Fault Refusal :=
  .next (busWrite 0x6B (doArchiveControl v) s)

/-- A read of 6Ch. -/
def execArchiveStatusLatch (s : State) : Host.Outcome State Fault Refusal :=
  .next (busFetch 0x6C (latchRead 0x6C latchArchive) s)

/-- A write of any other address; of an address with a row of its own, that row's write (log 8). -/
def execRegisterWrite (a : Addr) (v : Byte) (s : State) : Host.Outcome State Fault Refusal :=
  .next (busWrite a (writeAddress a v) s)

end Sys2Proof.Machine
end

