-- ==== Sys2Proof/Machine/PortCommands.lean ====
section
/-! DEFINITION. Frames of the SPI port (R175 to R177, R180). -/

namespace Sys2Proof.Machine

/-- The clock mode that the level of SCK selects when CSN falls (R175). -/
def modeOfSck (sckHigh : Bool) : ClockMode := if sckHigh then .mode3 else .mode0

/-- The direction that a header byte gives: bit 7 set is read (R183). -/
def headerDirection (b : Byte) : Direction := if b.getLsbD 7 then .read else .write

/-- The start address that a header byte gives (R176). -/
def headerAddress (b : Byte) : Addr := b.setWidth 7

/-- CSN falls: a frame begins; during a full reset the frame is ignored (R175, R180). With CSN low
already there is no fall. -/
def beginFrame (sckHigh : Bool) (s : State) : State :=
  if s.port.frame = .idle then
    { s with port :=
        { frame := if isHeld s then .ignored else .header (modeOfSck sckHigh), sdo := none } }
  else s

/-- The header byte sets direction and start address. In clock mode 0 the last falling edge of a
read header fetches the start address, with every effect of the read (R176, R177). -/
def takeHeader (b : Byte) (s : State) : State :=
  match s.port.frame with
  | .header m =>
    if isHeld s then s
    else
      let t : State :=
        { s with port :=
            { frame := .data m (headerDirection b) (headerAddress b), sdo := none } }
      if m = .mode0 ∧ headerDirection b = .read then
        fetchAt (headerAddress b) (readAddress (headerAddress b)) t
      else t
  | _ => s

/-- CSN rises: the frame ends, the bits of an incomplete byte are discarded, and SDO is released (R175,
R177). -/
def endFrame (s : State) : State := { s with port := { frame := .idle, sdo := none } }

/-- FRAME_START. -/
def execFrameStart (sckHigh : Bool) (s : State) : Host.Outcome State Fault Refusal :=
  .next (beginFrame sckHigh s)

/-- HEADER_BYTE. -/
def execHeaderByte (b : Byte) (s : State) : Host.Outcome State Fault Refusal :=
  .next (takeHeader b s)

/-- FRAME_END. -/
def execFrameEnd (s : State) : Host.Outcome State Fault Refusal := .next (endFrame s)

end Sys2Proof.Machine
end

