-- ==== Sys2Proof/Machine/Dispatch.lean ====
section
/-! DEFINITION. The dispatch: one arm per command, each one direct call of its meaning. -/

namespace Sys2Proof.Machine

def exec (i : Instr) (s : State) : Host.Outcome State Fault Refusal :=
  match i with
  | .arm => Sys2Proof.Machine.execArm s
  | .stop => Sys2Proof.Machine.execStop s
  | .trigger => Sys2Proof.Machine.execTrigger s
  | .resetScan => Sys2Proof.Machine.execResetScan s
  | .pop => Sys2Proof.Machine.execPop s
  | .clearQueue => Sys2Proof.Machine.execClearQueue s
  | .commitCurve => Sys2Proof.Machine.execCommitCurve s
  | .unknownMeasurementCommand code => Sys2Proof.Machine.execUnknownMeasurementCommand code s
  | .loadRow => Sys2Proof.Machine.execLoadRow s
  | .programRow => Sys2Proof.Machine.execProgramRow s
  | .loadProfile => Sys2Proof.Machine.execLoadProfile s
  | .saveProfile => Sys2Proof.Machine.execSaveProfile s
  | .loadCurve => Sys2Proof.Machine.execLoadCurve s
  | .saveCurve => Sys2Proof.Machine.execSaveCurve s
  | .setBoot => Sys2Proof.Machine.execSetBoot s
  | .archiveFlush => Sys2Proof.Machine.execArchiveFlush s
  | .archiveErase => Sys2Proof.Machine.execArchiveErase s
  | .unknownStoreCommand code => Sys2Proof.Machine.execUnknownStoreCommand code s
  | .stepWrite v => Sys2Proof.Machine.execStepWrite v s
  | .configWrite v => Sys2Proof.Machine.execConfigWrite v s
  | .stepViewLatch => Sys2Proof.Machine.execStepViewLatch s
  | .timeLatch => Sys2Proof.Machine.execTimeLatch s
  | .timeSet v => Sys2Proof.Machine.execTimeSet v s
  | .entryWrite v => Sys2Proof.Machine.execEntryWrite v s
  | .countWrite v => Sys2Proof.Machine.execCountWrite v s
  | .curveEntryLatch => Sys2Proof.Machine.execCurveEntryLatch s
  | .limitStatusLatch => Sys2Proof.Machine.execLimitStatusLatch s
  | .watermarkWrite v => Sys2Proof.Machine.execWatermarkWrite v s
  | .headWindowLatch => Sys2Proof.Machine.execHeadWindowLatch s
  | .eventFlagLatch => Sys2Proof.Machine.execEventFlagLatch s
  | .eventClear which v => Sys2Proof.Machine.execEventClear which v s
  | .eventEnableWrite which v => Sys2Proof.Machine.execEventEnableWrite which v s
  | .loadPortWrite v => Sys2Proof.Machine.execLoadPortWrite v s
  | .readPointerSet v => Sys2Proof.Machine.execReadPointerSet v s
  | .readPointerLatch => Sys2Proof.Machine.execReadPointerLatch s
  | .readPortRead => Sys2Proof.Machine.execReadPortRead s
  | .archiveControlWrite v => Sys2Proof.Machine.execArchiveControlWrite v s
  | .archiveStatusLatch => Sys2Proof.Machine.execArchiveStatusLatch s
  | .registerWrite a v => Sys2Proof.Machine.execRegisterWrite a v s
  | .frameStart sckHigh => Sys2Proof.Machine.execFrameStart sckHigh s
  | .headerByte b => Sys2Proof.Machine.execHeaderByte b s
  | .frameEnd => Sys2Proof.Machine.execFrameEnd s
  | .trgEdge e => Sys2Proof.Machine.execTrgEdge e s
  | .wpChange asserted => Sys2Proof.Machine.execWpChange asserted s
  | .fullReset => Sys2Proof.Machine.execFullReset s
  | .startUp steps => Sys2Proof.Machine.execStartUp steps s
  | .timeBaseTick n => Sys2Proof.Machine.execTimeBaseTick n s
  | .intervalExpiry => Sys2Proof.Machine.execIntervalExpiry s
  | .cclkPeriod n => Sys2Proof.Machine.execCclkPeriod n s
  | .oscillationCycle src n => Sys2Proof.Machine.execOscillationCycle src n s
  | .settleComplete => Sys2Proof.Machine.execSettleComplete s
  | .settleTimeout => Sys2Proof.Machine.execSettleTimeout s
  | .timeGateClose => Sys2Proof.Machine.execTimeGateClose s
  | .cyclesGateClose => Sys2Proof.Machine.execCyclesGateClose s
  | .stallCeiling => Sys2Proof.Machine.execStallCeiling s
  | .programAttemptEnd pass => Sys2Proof.Machine.execProgramAttemptEnd pass s

end Sys2Proof.Machine
end

