-- ==== Sys2Proof/WellFormed.lean ====
section
/-! DEFINITION. Which commands are rows of the table as the spec means them: an unknown code names
no command, a plain register write goes to an address without a row of its own, an event of a
clock happens at least once. -/

namespace Sys2Proof

/-- The codes of the measurement commands (Table 12-3). -/
def measurementCodes : List Byte := [0x01, 0x02, 0x03, 0x04, 0x05, 0x06, 0x07]

/-- The codes of the store commands (Table 12-3). -/
def storeCodes : List Byte := [0x21, 0x22, 0x23, 0x24, 0x25, 0x26, 0x27, 0x28, 0x29]

/-- The addresses whose writes are rows of their own: the command bytes, the committing bytes, the
watermark, the event clear and enable bytes, the load port and the archive control register. -/
def ownWriteAddresses : List Addr :=
  [0x04, 0x0B, 0x19, 0x2C, 0x33, 0x34, 0x3F, 0x57, 0x58, 0x59, 0x5A, 0x5D, 0x63, 0x65, 0x6B]

/-- A well-formed command. -/
def wellFormed : Instr → Bool
  | .unknownMeasurementCommand code => !measurementCodes.contains code
  | .unknownStoreCommand code => !storeCodes.contains code
  | .registerWrite a _ => !ownWriteAddresses.contains a
  | .startUp steps => decide (steps ≤ 6)
  | .timeBaseTick n => decide (1 ≤ n)
  | .cclkPeriod n => decide (1 ≤ n)
  | .oscillationCycle _ n => decide (1 ≤ n)
  | .arm | .stop | .trigger | .resetScan | .pop | .clearQueue | .commitCurve => true
  | .loadRow | .programRow | .loadProfile | .saveProfile | .loadCurve | .saveCurve => true
  | .setBoot | .archiveFlush | .archiveErase => true
  | .stepWrite _ | .configWrite _ | .stepViewLatch | .timeLatch | .timeSet _ => true
  | .entryWrite _ | .countWrite _ | .curveEntryLatch | .limitStatusLatch => true
  | .watermarkWrite _ | .headWindowLatch | .eventFlagLatch => true
  | .eventClear _ _ | .eventEnableWrite _ _ | .loadPortWrite _ => true
  | .readPointerSet _ | .readPointerLatch | .readPortRead => true
  | .archiveControlWrite _ | .archiveStatusLatch => true
  | .frameStart _ | .headerByte _ | .frameEnd => true
  | .trgEdge _ | .wpChange _ | .fullReset => true
  | .intervalExpiry | .settleComplete | .settleTimeout => true
  | .timeGateClose | .cyclesGateClose | .stallCeiling | .programAttemptEnd _ => true

end Sys2Proof
end

