-- ==== Sys2Proof/Safety.lean ====
section
/-! DEFINITION. What a safe run of the part is, and the conditions and laws that the statements are
made in. -/

namespace Sys2Proof

open Sys2Proof.Machine

/-- The outcome is a next state. -/
def completes (o : Host.Outcome State Fault Refusal) : Prop := ∃ t, o = .next t

/-- `n` steps from `s` meet neither a fault nor a refusal. -/
def safeFor (n : Nat) (s : State) : Prop :=
  ∃ t, ({ core with reset := s } : Host.Core).run n s = .next t

/-- The frame in hand is a write frame whose next data byte goes to address `a` (R176). -/
def writeFrameAt (a : Addr) (s : State) : Prop := ∃ m, s.port.frame = .data m .write a

/-- In service, and the frame in hand brings a write byte to address `a`. -/
def inService (a : Addr) (s : State) : Prop := s.power = .running ∧ writeFrameAt a s

/-- BOOTING, and the frame in hand brings a write byte to address `a`. -/
def inBooting (a : Addr) (s : State) : Prop := isBooting s = true ∧ writeFrameAt a s

/-- The store takes a new command: in service, a write frame at the store command byte 5Dh, and no
store command in progress. -/
def storeFree (s : State) : Prop := inService 0x5D s ∧ s.nvs.status.phase = .idle

/-- The frame in hand brings a read of address `a`: the part is not held in full reset, and a read
frame stands at `a` or comes to it next by reads without an effect (R176, log 2). -/
def readFrameAt (a : Addr) (s : State) : Prop :=
  s.power ≠ .held ∧ ∃ m x, s.port.frame = .data m .read x ∧ nextReadStop x = a

/-- The two claims of the plan lock (R35). -/
def planLock (s : State) : Prop :=
  s.sc.state ≠ .stopped ∨ ∃ h, s.nvs.road = some h ∧ h.command = .saveProfile

/-- A SAVE CURVE of curve `c` is in progress (R79, step 3). -/
def savingCurve (c : Fin 4) (s : State) : Prop :=
  ∃ h, s.nvs.road = some h ∧ h.command = .saveCurve ∧ h.argument.toNat = c.val

/-- A running timer has a unit or more to go, and a phase below 16 (R52). -/
def timerLaw (s : State) : Prop :=
  ∀ t, s.sc.timer = some t → 1 ≤ t.units ∧ t.phase < 16

/-- The port's law: SDO is driven only in the data bytes of a read frame, and while the part is held in
full reset no frame is in hand but an ignored one (R175, R180). -/
def portLaw (s : State) : Prop :=
  (s.port.sdo ≠ none → ∃ m x, s.port.frame = .data m .read x) ∧
  (s.power = .held → s.port.frame = .idle ∨ s.port.frame = .ignored)

/-- The state after the FILLING buffer has committed (R152): it is COMMITTED, the other one fills, and
outside an erase and FULL the row at the write pointer is claimed with the image of its records. -/
def fillingCommitted (s : State) : State :=
  { s with
    au.committed := some s.au.filling
    au.filling := []
    au.fillingIndex := 1 - s.au.fillingIndex
    au.failedOnce := false
    au.flushPending := false
    nvs.archiveClaim :=
      if s.au.erase ≠ none ∨ s.au.full = true then s.nvs.archiveClaim
      else some
        { row := s.au.writePointer
          image := .fixed (archiveRowImage s.au.nextSeq s.au.filling) } }

/-- `j` is the first enabled step of the plan. -/
def isFirstEnabled (p : ScanPlan) (j : Fin 16) : Prop :=
  p.entries[j].enabled = true ∧ ∀ k : Fin 16, k < j → p.entries[k].enabled = false

/-- `k` is the next enabled step above `j`. -/
def isNextEnabled (p : ScanPlan) (j k : Fin 16) : Prop :=
  j < k ∧ p.entries[k].enabled = true ∧
    ∀ i : Fin 16, j < i → i < k → p.entries[i].enabled = false

/-- The four checks of Table 2-4 on the entry of step `j`. -/
def passesChecks (p : ScanPlan) (curves : Vector Curve 4) (j : Fin 16) : Prop :=
  (∀ k, p.entries[j].pair = some k → p.entries[k].enabled = true) ∧
  (p.entries[j].curve ≠ none → p.entries[j].pair ≠ none) ∧
  (∀ c, p.entries[j].curve = some c → curves[c].valid = true) ∧
  (p.entries[j].limits = true → p.entries[j].curve ≠ none)

/-- The ranges of Table 2-1 for the fields of entry `j` that their types do not bound. -/
def legalEntry (j : Fin 16) (e : StepEntry) : Prop :=
  (e.gateMode = .time → 256 ≤ e.gateLength.toNat) ∧
  (e.gateMode = .cycles → 16 ≤ e.gateLength.toNat ∧ e.gateLength.toNat ≤ 1048575) ∧
  (∀ k, e.pair = some k → k < j) ∧
  1 ≤ e.filter ∧ e.filter ≤ 15 ∧ e.low.toInt ≤ e.high.toInt

/-- Every field of the plan table and of the configuration holds a value of its range (R21, R27). -/
def planLaw (s : State) : Prop :=
  (∀ j : Fin 16, legalEntry j s.plan.entries[j]) ∧ 1 ≤ s.plan.config.units.toNat

/-- WATERMARK is set while the watermark condition holds (R112, R121). -/
def watermarkLaw (s : State) : Prop :=
  s.rq.watermark ≤ s.rq.records.length → flagSet s .watermark = true

/-- The conditions of Table 2-4 hold for every scan of a run, and no run begins outside service
(R38, R39). -/
def armedLaw (s : State) : Prop :=
  (s.power ≠ .running → s.sc.state = .stopped) ∧
  (s.sc.state ≠ .stopped →
    (∃ j : Fin 16, s.plan.entries[j].enabled = true) ∧
    ∀ j : Fin 16, s.plan.entries[j].enabled = true → passesChecks s.plan s.rcu.curves j)

/-- A step may start: under DROP, or with a level of 30 or less (R54, R55). -/
def mayStart (s : State) : Prop := s.plan.config.policy = .drop ∨ s.rq.records.length ≤ 30

/-- The x values of the breakpoints 0 to n - 1 strictly increase (R77). -/
def xRise (c : Curve) : Prop :=
  ∀ i j : Fin 24, i < j → j.val < c.count → c.points[i].x.toNat < c.points[j].x.toNat

/-- The curves law of R76 and R77: counts within the table, and a valid curve passes the check. -/
def curvesLaw (s : State) : Prop :=
  ∀ c : Fin 4, s.rcu.curves[c].count ≤ 24 ∧
    (s.rcu.curves[c].valid = true → 2 ≤ s.rcu.curves[c].count ∧ xRise s.rcu.curves[c])

/-- The leg law of R2: in OFF no leg is driven, in SETTLE and GATE the leg of the path. -/
def legLaw (s : State) : Prop :=
  (s.cu.state = .off → s.cu.energized = none) ∧
  (s.cu.state ≠ .off → s.cu.energized = legOf s.cu.path)

/-- Bounds of the queue and of the staging buffers (R99, R112, R148). -/
def boundsLaw (s : State) : Prop :=
  s.rq.records.length ≤ 32 ∧ 1 ≤ s.rq.watermark ∧ s.rq.watermark ≤ 32 ∧
  s.au.filling.length ≤ 4 ∧
  (∀ rs, s.au.committed = some rs → 1 ≤ rs.length ∧ rs.length ≤ 4) ∧
  32 ≤ s.au.writePointer.val ∧ 1 ≤ s.au.nextSeq.toNat

/-- The store phase is IN_PROGRESS exactly while a long command is in progress, on the host's road or
as an ARCHIVE ERASE, and never both; outside service there is none (R144, R145). -/
def roadLaw (s : State) : Prop :=
  (s.nvs.status.phase = .inProgress ↔ (s.nvs.road ≠ none ∨ s.au.erase ≠ none)) ∧
  (s.nvs.road = none ∨ s.au.erase = none) ∧
  (s.power ≠ .running → s.nvs.road = none ∧ s.au.erase = none)

/-- A row under a cycle is BLANK, and no claim waits at an IDLE engine (R128, R146). -/
def engineLaw (s : State) : Prop :=
  (s.nvs.engine.busy = true → s.nvs.complete[s.nvs.engine.row] = false) ∧
  (s.nvs.engine.busy = false → s.nvs.hostClaim = none ∧ s.nvs.archiveClaim = none)

/-- The conditions of Table 3-2, with the current step an enabled one (R42, R54, R55). -/
def scanLaw (s : State) : Prop :=
  (s.power ≠ .running → s.sc.state = .stopped) ∧
  (s.sc.timer ≠ none ↔ s.sc.state ≠ .stopped ∧ s.plan.config.interval = true) ∧
  (s.sc.state ≠ .stopped → ∃ j, isFirstEnabled s.plan j) ∧
  (s.cu.state ≠ .off ↔ ∃ b, s.sc.state = .running .converting b) ∧
  match s.sc.state with
  | .stopped => s.sc.current = none ∧ s.sc.pending = false
  | .armed => s.sc.current = none ∧ s.sc.pending = false
  | .running .converting b =>
    b = true ∧ ∃ j, s.sc.current = some j ∧ s.plan.entries[j].enabled = true
  | .running .waitSpace true =>
    ∃ j, s.sc.current = some j ∧ s.plan.entries[j].enabled = true
  | .running .waitSpace false => ∃ j, s.sc.current = some j ∧ isFirstEnabled s.plan j

/-- The space rule that HOLD rests on: at least 2 free slots when a conversion is in hand, at least
one in a begun scan (R54, R55 and section 3.5.1). -/
def holdLaw (s : State) : Prop :=
  s.plan.config.policy = .hold →
    (∀ b, s.sc.state = .running .converting b → s.rq.records.length ≤ 30) ∧
    (s.sc.state = .running .waitSpace true → s.rq.records.length ≤ 31)

/-- The measurement commands with their codes and their names in the status record (Table 12-3). -/
def measurementRows : List (Instr × Byte × MeasLast) :=
  [(.arm, 0x01, .command .arm), (.stop, 0x02, .command .stop),
   (.trigger, 0x03, .command .trigger), (.resetScan, 0x04, .command .resetScan),
   (.pop, 0x05, .command .pop), (.clearQueue, 0x06, .command .clearQueue),
   (.commitCurve, 0x07, .command .commitCurve)]

/-- The store commands with their codes and their names in the status record (Table 12-3). -/
def storeRows : List (Instr × Byte × StoreCommand) :=
  [(.loadRow, 0x21, .loadRow), (.programRow, 0x22, .programRow),
   (.loadProfile, 0x23, .loadProfile), (.saveProfile, 0x24, .saveProfile),
   (.loadCurve, 0x25, .loadCurve), (.saveCurve, 0x26, .saveCurve), (.setBoot, 0x27, .setBoot),
   (.archiveFlush, 0x28, .archiveFlush), (.archiveErase, 0x29, .archiveErase)]

end Sys2Proof
end

