-- ==== Sys2Proof/Certificates/Slice0/Obligations.lean ====
section
/-! DEFINITION. The statements for the provers, family by family. Each docstring names the rules of
spec/ that a statement formalises. -/

open Sys2Proof Sys2Proof.Machine

/-! ## The step and the command queue -/

/-- One step takes the command at the front of the queue and carries it out with the rest of the
queue. -/
def Obligations.StepTakesFrontCommand : Prop :=
  ∀ (c : Instr) (rest : List Instr) (s : State),
    step { s with pending := c :: rest } = exec c { s with pending := rest }

/-- The model's choices of logs 4, 7 and 9: with no command waiting the part idles, and a happening that
is not due, or that the frame in hand gives no place, changes nothing. -/
def Obligations.NothingWhenNotDue : Prop :=
  ∀ s : State,
    (s.pending = [] → step s = .next s) ∧
    ((∀ t, s.sc.timer = some t → t.expired = 0) → exec .intervalExpiry s = .next s) ∧
    (s.cu.state ≠ .settle ∨ s.cu.settleCounter ≠ s.cu.settleCount →
      exec .settleComplete s = .next s) ∧
    (s.cu.state ≠ .settle ∨ s.cu.clockCounter ≠ 65536 ∨
        s.cu.settleCounter = s.cu.settleCount →
      exec .settleTimeout s = .next s) ∧
    (s.cu.state ≠ .gate ∨ s.cu.gateMode ≠ .time ∨ s.cu.clockCounter ≠ s.cu.gateLength →
      exec .timeGateClose s = .next s) ∧
    (s.cu.state ≠ .gate ∨ s.cu.gateMode ≠ .cycles ∨ s.cu.oscCounter ≠ s.cu.gateLength →
      exec .cyclesGateClose s = .next s) ∧
    (s.cu.state ≠ .gate ∨ s.cu.gateMode ≠ .cycles ∨ s.cu.clockCounter ≠ 16777215 ∨
        s.cu.oscCounter = s.cu.gateLength →
      exec .stallCeiling s = .next s) ∧
    (s.nvs.engine.busy = false → ∀ pass, exec (.programAttemptEnd pass) s = .next s) ∧
    (s.port.frame ≠ .idle → ∀ sck, exec (.frameStart sck) s = .next s) ∧
    ((∀ m, s.port.frame ≠ .header m) → ∀ b, exec (.headerByte b) s = .next s) ∧
    (s.power = .held → ∀ n, exec (.timeBaseTick n) s = .next s) ∧
    (s.power = .running → ∀ n, exec (.startUp n) s = .next s)

/-- Every command is answered with a next state from every state, and carrying it out neither takes
nor adds a waiting command. -/
def Obligations.EveryCommandCompletes : Prop :=
  ∀ (c : Instr) (s : State), ∃ t, exec c s = .next t ∧ t.pending = s.pending

/-! ## Measurement commands (chapter 3) -/

/-- R38: validation passes exactly when an entry is enabled and every enabled entry passes Table 2-4;
otherwise the detail is 255, or the first failing entry. -/
def Obligations.PlanValidation : Prop :=
  ∀ s : State,
    (validatePlan s = none ↔
      (∃ j : Fin 16, s.plan.entries[j].enabled = true) ∧
      ∀ j : Fin 16, s.plan.entries[j].enabled = true → passesChecks s.plan s.rcu.curves j) ∧
    ((∀ j : Fin 16, s.plan.entries[j].enabled = false) → validatePlan s = some 255) ∧
    (∀ j : Fin 16, s.plan.entries[j].enabled = true → ¬ passesChecks s.plan s.rcu.curves j →
      (∀ k : Fin 16, k < j → s.plan.entries[k].enabled = true →
        passesChecks s.plan s.rcu.curves k) →
      validatePlan s = some (BitVec.ofNat 8 j.val))

/-- R47 and R48 with the failing outcome of R39: what ARM does in STOPPED, and its refusal in ARMED and
RUNNING. -/
def Obligations.ArmCommand : Prop :=
  (∀ s : State, inService 0x04 s → s.sc.state = .stopped →
     (∀ d, validatePlan s = some d →
       exec .arm s = .next (portWrote 0x04
         (raise .cmdReject
           { s with sc.status := { last := .command .arm, outcome := .invalid, detail := d } }))) ∧
     (validatePlan s = none →
       let armed : State :=
         { s with
           lw.records := Vector.replicate 16 { state := .unknown, candidate := none, count := 0 }
           sc.pending := false
           sc.timer :=
             if s.plan.config.interval then
               some { units := s.plan.config.units.toNat, phase := 0, expired := 0 }
             else none
           sc.state := .armed
           sc.status := { last := .command .arm, outcome := .ok, detail := 0 } }
       exec .arm s = .next (portWrote 0x04
         (if s.plan.config.immediate then takeTrigger armed else armed)))) ∧
  (∀ s : State, inService 0x04 s → s.sc.state ≠ .stopped →
     exec .arm s = .next (portWrote 0x04
       (raise .cmdReject
         { s with sc.status := { last := .command .arm, outcome := .state, detail := 0 } })))

/-- R50 and R51: what a trigger does in each state of the Scan Controller, and the four answers of the
TRIGGER command. -/
def Obligations.TriggerRules : Prop :=
  (∀ s : State,
     (s.sc.state = .stopped → takeTrigger s = s) ∧
     (s.sc.state = .armed → takeTrigger s = startScan false s) ∧
     (∀ sub b, s.sc.state = .running sub b → s.sc.pending = false →
       takeTrigger s = { s with sc.pending := true }) ∧
     (∀ sub b, s.sc.state = .running sub b → s.sc.pending = true →
       takeTrigger s = raise .overrun s)) ∧
  (∀ s : State, inService 0x04 s →
     let answered (o : CmdOutcome) (d : Byte) (t : State) : State :=
       portWrote 0x04
         { t with sc.status := { last := .command .trigger, outcome := o, detail := d } }
     (s.sc.state = .stopped → exec .trigger s = .next (answered .state 0 (raise .cmdReject s))) ∧
     (s.sc.state = .armed → exec .trigger s = .next (answered .ok 0 (startScan false s))) ∧
     (∀ sub b, s.sc.state = .running sub b → s.sc.pending = false →
       exec .trigger s = .next (answered .ok 1 { s with sc.pending := true })) ∧
     (∀ sub b, s.sc.state = .running sub b → s.sc.pending = true →
       exec .trigger s = .next (answered .ok 2 (raise .overrun s))))

/-- R54 and R56 with R4: a started scan is begun with its first enabled step in the Conversion Unit
where there is space, and is held unbegun otherwise. -/
def Obligations.ScanStart : Prop :=
  ∀ (s : State) (j : Fin 16) (late : Bool), isFirstEnabled s.plan j → s.cu.state = .off →
    (mayStart s →
      startScan late s =
        { s with
          sc.fromLatch := late
          sc.scanNumber := s.sc.scanNumber + 1
          sc.converted := 0
          sc.faulted := 0
          sc.late := late
          sc.current := some j
          sc.state := .running .converting true
          rcu.slots := Vector.replicate 16 { valid := false, clock := 0, osc := 0 }
          cu :=
            { state := if s.plan.entries[j].settle = 0 then .gate else .settle
              path := s.plan.entries[j].path
              gateMode := s.plan.entries[j].gateMode
              gateLength := s.plan.entries[j].gateLength.toNat
              settleCount := s.plan.entries[j].settle.toNat
              settleCounter := 0
              clockCounter := 0
              oscCounter := 0
              energized := legOf s.plan.entries[j].path } }) ∧
    (¬ mayStart s →
      startScan late s =
        { s with
          sc.fromLatch := late
          sc.state := .running .waitSpace false
          sc.current := some j })

/-- R62 with R13: what STOP does in each state of the Scan Controller; a conversion in SETTLE or GATE is
abandoned, and a unit in OFF is left as it is. What the scan-end signal does is stated in ScanEnds. -/
def Obligations.StopCommand : Prop :=
  (∀ s : State, inService 0x04 s →
     let ended : ScanController :=
       { s.sc with
         timer := none
         pending := false
         current := none
         state := .stopped
         status := { last := .command .stop, outcome := .ok, detail := 0 } }
     (s.sc.state = .stopped →
       exec .stop s = .next (portWrote 0x04
         { s with sc.status := { last := .command .stop, outcome := .ok, detail := 0 } })) ∧
     (s.sc.state = .armed →
       exec .stop s = .next (portWrote 0x04 { s with sc := ended })) ∧
     (∀ sub, s.sc.state = .running sub false →
       exec .stop s = .next (portWrote 0x04
         { s with sc := { ended with fromLatch := false } })) ∧
     (∀ sub, s.sc.state = .running sub true →
       let offered : State :=
         offerRecord (.scanEnd false s.sc.late s.sc.scanNumber .stopped s.sc.converted
           s.sc.faulted s.tb.count) s
       let told : State := arbitrate (signalScanEnd s)
       exec .stop s = .next (portWrote 0x04
         { s with
           sc := ended
           cu := abandonUnit s.cu
           rq := offered.rq
           ev := (raise .scanEnd offered).ev
           au := told.au
           nvs := told.nvs }))) ∧
  (∀ u : ConversionUnit,
     (u.state ≠ .off →
       abandonUnit u =
         { u with state := .off, energized := none, settleCounter := 0, clockCounter := 0,
                  oscCounter := 0 }) ∧
     (u.state = .off → abandonUnit u = u))

/-- R64: RESET SCAN in every state of the Scan Controller. -/
def Obligations.ResetScanCommand : Prop :=
  ∀ s : State, inService 0x04 s → 1 ≤ s.rq.watermark →
    exec .resetScan s = .next (portWrote 0x04
      { s with
        cu := abandonUnit s.cu
        sc :=
          { state := .stopped, current := none, scanNumber := 0, pending := false
            fromLatch := false, late := false, converted := 0, faulted := 0, timer := none
            argument := s.sc.argument
            status := { last := .command .resetScan, outcome := .ok, detail := 0 } }
        rq.records := []
        rq.gapPending := false
        lw.records := Vector.replicate 16 { state := .unknown, candidate := none, count := 0 } })

/-- R108 with R55: POP removes the head record, and a WAIT_SPACE is examined again, by R55 also where the
queue was empty (log 10). -/
def Obligations.PopCommand : Prop :=
  ∀ s : State, inService 0x04 s →
    let popped : State :=
      raiseIf (decide (s.rq.watermark ≤ s.rq.records.tail.length)) .watermark
        { s with
          rq.records := s.rq.records.tail
          sc.status := { last := .command .pop, outcome := .ok, detail := 0 } }
    ((∀ b, s.sc.state ≠ .running .waitSpace b) →
      exec .pop s = .next (portWrote 0x04 popped)) ∧
    (∀ j, s.sc.state = .running .waitSpace true → s.sc.current = some j →
      (mayStart popped →
        exec .pop s = .next (portWrote 0x04 (startStep j popped))) ∧
      (¬ mayStart popped → exec .pop s = .next (portWrote 0x04 popped))) ∧
    (∀ j, s.sc.state = .running .waitSpace false → s.sc.current = some j →
      isFirstEnabled s.plan j →
      exec .pop s = .next (portWrote 0x04 (startScan s.sc.fromLatch popped)))

/-- R109 with R55: CLEAR QUEUE empties the queue and clears gap-pending, and a WAIT_SPACE finds its
space, by R55 also where the queue was empty (log 10). -/
def Obligations.ClearQueueCommand : Prop :=
  ∀ s : State, inService 0x04 s → 1 ≤ s.rq.watermark →
    let cleared : State :=
      { s with
        rq.records := []
        rq.gapPending := false
        sc.status := { last := .command .clearQueue, outcome := .ok, detail := 0 } }
    ((∀ b, s.sc.state ≠ .running .waitSpace b) →
      exec .clearQueue s = .next (portWrote 0x04 cleared)) ∧
    (∀ j, s.sc.state = .running .waitSpace true → s.sc.current = some j →
      exec .clearQueue s = .next (portWrote 0x04 (startStep j cleared))) ∧
    (∀ j, s.sc.state = .running .waitSpace false → s.sc.current = some j →
      isFirstEnabled s.plan j →
      exec .clearQueue s = .next (portWrote 0x04 (startScan s.sc.fromLatch cleared)))

/-- R84 with R65: the commit check passes exactly for a count of 2 to 24 with strictly increasing x, and
fails with 255 or with the first index whose x is not greater than the x before it; the answers of
COMMIT CURVE c. -/
def Obligations.CommitCurve : Prop :=
  (∀ c : Curve,
     (commitCheck c = none ↔ 2 ≤ c.count ∧ c.count ≤ 24 ∧ xRise c) ∧
     (c.count < 2 ∨ 24 < c.count → commitCheck c = some 255) ∧
     (∀ i : Fin 24, ∀ h : 0 < i.val, 2 ≤ c.count → c.count ≤ 24 → i.val < c.count →
       c.points[i].x.toNat ≤ (c.points[i.val - 1]'(by omega)).x.toNat →
       (∀ k : Fin 24, ∀ h' : 0 < k.val, k < i →
         (c.points[k.val - 1]'(by omega)).x.toNat < c.points[k].x.toNat) →
       commitCheck c = some (BitVec.ofNat 8 i.val))) ∧
  (∀ s : State, inService 0x04 s →
     let answered (o : CmdOutcome) (d : Byte) (t : State) : State :=
       portWrote 0x04
         { t with sc.status := { last := .command .commitCurve, outcome := o, detail := d } }
     (4 ≤ s.sc.argument.toNat →
       exec .commitCurve s = .next (answered .range s.sc.argument (raise .cmdReject s))) ∧
     (∀ c : Fin 4, s.sc.argument.toNat = c.val →
       (s.sc.state ≠ .stopped →
         exec .commitCurve s = .next (answered .state 0 (raise .cmdReject s))) ∧
       (s.sc.state = .stopped → commitCheck s.rcu.curves[c] = none →
         exec .commitCurve s = .next (answered .ok s.sc.argument
           { s with
             rcu.curves := s.rcu.curves.set c { s.rcu.curves[c] with valid := true } })) ∧
       (∀ d, s.sc.state = .stopped → commitCheck s.rcu.curves[c] = some d →
         exec .commitCurve s = .next (answered .invalid d (raise .cmdReject
           { s with
             rcu.curves := s.rcu.curves.set c { s.rcu.curves[c] with valid := false } })))))

/-! ## Refusals that do not depend on a command's own rule -/

/-- R46 and R142: a code that names no command is answered UNKNOWN; a store command byte written while a
store command is in progress leaves everything but CMD_REJECT as it is. -/
def Obligations.CommandByteRefusals : Prop :=
  (∀ (s : State) (code : Byte),
     (inService 0x04 s → wellFormed (.unknownMeasurementCommand code) = true →
       exec (.unknownMeasurementCommand code) s = .next (portWrote 0x04
         (raise .cmdReject
           { s with sc.status := { last := .raw code, outcome := .unknown, detail := 0 } }))) ∧
     (storeFree s → wellFormed (.unknownStoreCommand code) = true →
       exec (.unknownStoreCommand code) s = .next (portWrote 0x5D
         (raise .cmdReject
           { s with nvs.status :=
               { phase := .idle, last := .raw code, outcome := .unknown, detail := 0 } })))) ∧
  (∀ s : State, inService 0x5D s → s.nvs.status.phase = .inProgress →
     (∀ c code n, (c, code, n) ∈ storeRows →
       exec c s = .next (portWrote 0x5D (raise .cmdReject s))) ∧
     (∀ code, wellFormed (.unknownStoreCommand code) = true →
       exec (.unknownStoreCommand code) s =
         .next (portWrote 0x5D (raise .cmdReject s))))

/-- R45 and R142 step 1: during BOOTING every command byte is answered BUSY, an unknown code with its
raw code. -/
def Obligations.BootingAnswersBusy : Prop :=
  ∀ s : State,
    let meas (last : MeasLast) : State :=
      raise .cmdReject { s with sc.status := { last := last, outcome := .busy, detail := 0 } }
    let store (last : StoreLast) : State :=
      raise .cmdReject
        { s with nvs.status := { phase := .idle, last := last, outcome := .busy, detail := 0 } }
    (inBooting 0x04 s →
      (∀ c code last, (c, code, last) ∈ measurementRows →
        exec c s = .next (portWrote 0x04 (meas last))) ∧
      (∀ code, wellFormed (.unknownMeasurementCommand code) = true →
        exec (.unknownMeasurementCommand code) s =
          .next (portWrote 0x04 (meas (.raw code))))) ∧
    (inBooting 0x5D s →
      (∀ c code n, (c, code, n) ∈ storeRows →
        exec c s = .next (portWrote 0x5D (store (.command n)))) ∧
      (∀ code, wellFormed (.unknownStoreCommand code) = true →
        exec (.unknownStoreCommand code) s = .next (portWrote 0x5D (store (.raw code)))))

/-- R173 and R180: a write of a staging, control, mask or pointer address during BOOTING changes
nothing; the two argument bytes store theirs. -/
def Obligations.BootingIgnoresWrites : Prop :=
  ∀ (s : State) (v : Byte),
    (∀ c a, (c, a) ∈
        [(Instr.stepWrite v, (0x19 : Addr)), (.configWrite v, 0x2C), (.timeSet v, 0x0B),
         (.entryWrite v, 0x33), (.countWrite v, 0x34), (.watermarkWrite v, 0x3F),
         (.eventClear .first v, 0x57), (.eventClear .second v, 0x58),
         (.eventEnableWrite .first v, 0x59), (.eventEnableWrite .second v, 0x5A),
         (.loadPortWrite v, 0x63), (.readPointerSet v, 0x65),
         (.archiveControlWrite v, 0x6B)] →
      inBooting a s → exec c s = .next (portWrote a s)) ∧
    (∀ a, wellFormed (.registerWrite a v) = true → a ≠ 0x03 → a ≠ 0x5C →
      inBooting a s →
      exec (.registerWrite a v) s = .next (portWrote a s)) ∧
    (inBooting 0x03 s → exec (.registerWrite 0x03 v) s =
      .next (portWrote 0x03 { s with sc.argument := v })) ∧
    (inBooting 0x5C s → exec (.registerWrite 0x5C v) s =
      .next (portWrote 0x5C { s with nvs.argument := v }))

/-! ## Store commands (chapters 8 to 10) -/

/-- R134: LOAD ROW r copies what the row reads and clears the loaded marks; r of 64 to 255 is refused
RANGE. -/
def Obligations.LoadRowCommand : Prop :=
  ∀ s : State, storeFree s →
    let answered (o : CmdOutcome) (t : State) : State :=
      portWrote 0x5D
        { t with nvs.status :=
            { phase := .idle, last := .command .loadRow, outcome := o
              detail := s.nvs.argument } }
    (64 ≤ s.nvs.argument.toNat →
      exec .loadRow s = .next (answered .range (raise .cmdReject s))) ∧
    (∀ r : Fin 64, s.nvs.argument.toNat = r.val →
      exec .loadRow s = .next (answered .ok
        { s with
          nvs.page.data := Vector.ofFn fun b => rowByte s.nvs r b.val
          nvs.page.loaded := Vector.replicate 64 false }))

/-- R135, the checks and the acceptance of PROGRAM ROW r: the claim for row r stands at the arbiter
with the merge as its image. -/
def Obligations.ProgramRowCommand : Prop :=
  ∀ s : State, storeFree s →
    let refused (o : CmdOutcome) : State :=
      portWrote 0x5D (raise .cmdReject
        { s with nvs.status :=
            { phase := .idle, last := .command .programRow, outcome := o
              detail := s.nvs.argument } })
    (64 ≤ s.nvs.argument.toNat → exec .programRow s = .next (refused .range)) ∧
    (∀ r : Fin 64, s.nvs.argument.toNat = r.val →
      (32 ≤ r.val → s.au.mode ≠ .off → exec .programRow s = .next (refused .range)) ∧
      (r.val < 32 → s.pins.wp = true → exec .programRow s = .next (refused .prot)) ∧
      ((32 ≤ r.val ∧ s.au.mode = .off) ∨ (r.val < 32 ∧ s.pins.wp = false) →
        exec .programRow s = .next (portWrote 0x5D (arbitrate
          { s with
            nvs.status :=
              { phase := .inProgress, last := .command .programRow, outcome := .ok
                detail := s.nvs.argument }
            nvs.road := some
              { command := .programRow, argument := s.nvs.argument, row := r, rest := [] }
            nvs.hostClaim := some { row := r, image := .merge } }))))

/-- R167 and R169, the checks and the acceptance of SAVE PROFILE p and SAVE CURVE c: the image is
fixed, the save claim begins with the command, and the first row is claimed. -/
def Obligations.SaveCommands : Prop :=
  ∀ s : State, storeFree s →
    let refused (n : StoreCommand) (code : Byte) (o : CmdOutcome) : State :=
      portWrote 0x5D (raise .cmdReject
        { s with nvs.status :=
            { phase := .idle, last := .command n, outcome := o, detail := s.nvs.argument } })
    let accepted (n : StoreCommand) (code : Byte) (r : Fin 64) (img : RowImage)
        (rest : List (Fin 64 × RowImage)) : State :=
      portWrote 0x5D (arbitrate
        { s with
          nvs.status :=
            { phase := .inProgress, last := .command n, outcome := .ok
              detail := BitVec.ofNat 8 r.val }
          nvs.road := some { command := n, argument := s.nvs.argument, row := r, rest := rest }
          nvs.hostClaim := some { row := r, image := .fixed img } })
    (4 ≤ s.nvs.argument.toNat →
      exec .saveProfile s = .next (refused .saveProfile 0x24 .range) ∧
      exec .saveCurve s = .next (refused .saveCurve 0x26 .range)) ∧
    (s.nvs.argument.toNat < 4 → s.pins.wp = true →
      exec .saveProfile s = .next (refused .saveProfile 0x24 .prot) ∧
      exec .saveCurve s = .next (refused .saveCurve 0x26 .prot)) ∧
    (∀ p : Fin 4, s.nvs.argument.toNat = p.val → s.pins.wp = false →
      let whole : List Byte := profileImage p s.plan.entries s.plan.config
      let curve : List Byte := curveImage p s.rcu.curves[p]
      exec .saveProfile s = .next (accepted .saveProfile 0x24 (rowNo (4 * p.val))
        (rowOfImage whole 0)
        [(rowNo (4 * p.val + 1), rowOfImage whole 1), (rowNo (4 * p.val + 2), rowOfImage whole 2),
         (rowNo (4 * p.val + 3), rowOfImage whole 3)]) ∧
      exec .saveCurve s = .next (accepted .saveCurve 0x26 (rowNo (16 + 2 * p.val))
        (rowOfImage curve 0) [(rowNo (17 + 2 * p.val), rowOfImage curve 1)]))

/-- R171, the checks and the acceptance of SET BOOT; which registers fail, in the order of R166. -/
def Obligations.SetBootCommand : Prop :=
  ∀ s : State, storeFree s →
    let refused (o : CmdOutcome) (d : Byte) : State :=
      portWrote 0x5D (raise .cmdReject
        { s with nvs.status :=
            { phase := .idle, last := .command .setBoot, outcome := o, detail := d } })
    (∀ k, bootRegisterFault s.nvs.bootStage = some k →
      exec .setBoot s = .next (refused .range (BitVec.ofNat 8 k))) ∧
    (bootRegisterFault s.nvs.bootStage = none → s.pins.wp = true →
      exec .setBoot s = .next (refused .prot 0)) ∧
    (bootRegisterFault s.nvs.bootStage = none → s.pins.wp = false →
      exec .setBoot s = .next (portWrote 0x5D (arbitrate
        { s with
          nvs.status :=
            { phase := .inProgress, last := .command .setBoot, outcome := .ok, detail := 24 }
          nvs.road := some { command := .setBoot, argument := 0, row := 24, rest := [] }
          nvs.hostClaim := some
            { row := 24, image := .fixed (rowOfImage (bootImage s.nvs.bootStage) 0) } }))) ∧
    (let r : Vector Byte 4 := s.nvs.bootStage
     let ok (k : Fin 4) : Prop :=
       if k = 0 then r[k].toNat ≤ 3 ∨ r[k] = 0xFF
       else if k = 2 then r[k].toNat ≤ 2
       else r[k].toNat ≤ 1
     (bootRegisterFault r = none ↔ ∀ k : Fin 4, ok k) ∧
     (∀ k : Fin 4, bootRegisterFault r = some k.val ↔ ¬ ok k ∧ ∀ i : Fin 4, i < k → ok i))

/-- R168: the answers of LOAD PROFILE p, and that a good profile replaces the plan whole. -/
def Obligations.LoadProfileCommand : Prop :=
  ∀ s : State, storeFree s →
    let answered (o : CmdOutcome) (d : Byte) (t : State) : State :=
      portWrote 0x5D
        { t with nvs.status :=
            { phase := .idle, last := .command .loadProfile, outcome := o, detail := d } }
    let failed (d : Byte) : State := answered .checkFail d (raise .cmdReject s)
    (4 ≤ s.nvs.argument.toNat →
      exec .loadProfile s = .next (answered .range s.nvs.argument (raise .cmdReject s))) ∧
    (∀ p : Fin 4, s.nvs.argument.toNat = p.val →
      let l : List Byte := profileRowsBytes s.nvs p
      (s.sc.state ≠ .stopped →
        exec .loadProfile s = .next (answered .locked s.nvs.argument (raise .cmdReject s))) ∧
      (s.sc.state = .stopped →
        (judgeProfile p l = .absent → exec .loadProfile s = .next (failed 254)) ∧
        (judgeProfile p l = .bad → exec .loadProfile s = .next (failed 255)) ∧
        (judgeProfile p l = .good → decodeConfig (profileConfig l) = none →
          exec .loadProfile s = .next (failed 16)) ∧
        (∀ g, judgeProfile p l = .good → decodeConfig (profileConfig l) = some g →
          (∀ k : Fin 16, decodeStep k (profileStep l k) = none →
            (∀ i : Fin 16, i < k → decodeStep i (profileStep l i) ≠ none) →
            exec .loadProfile s = .next (failed (BitVec.ofNat 8 k.val))) ∧
          (∀ es : Vector StepEntry 16,
            (∀ k : Fin 16, decodeStep k (profileStep l k) = some es[k]) →
            exec .loadProfile s = .next (answered .ok s.nvs.argument
              { s with
                plan.entries := es
                plan.config := g
                plan.configStage := configImage g })))))

/-- R170 with R76: the answers of LOAD CURVE c, and the curve it leaves. -/
def Obligations.LoadCurveCommand : Prop :=
  ∀ s : State, storeFree s →
    let answered (o : CmdOutcome) (d : Byte) (t : State) : State :=
      portWrote 0x5D
        { t with nvs.status :=
            { phase := .idle, last := .command .loadCurve, outcome := o, detail := d } }
    let failed (d : Byte) : State := answered .checkFail d (raise .cmdReject s)
    (4 ≤ s.nvs.argument.toNat →
      exec .loadCurve s = .next (answered .range s.nvs.argument (raise .cmdReject s))) ∧
    (∀ c : Fin 4, s.nvs.argument.toNat = c.val →
      let l : List Byte := curveRowsBytes s.nvs c
      let read : Curve :=
        { count := imageCount l
          points := Vector.ofFn fun i =>
            if i.val < imageCount l then pointOf (l.drop (3 + 5 * i.val)) else { x := 0, y := 0 }
          valid := false }
      (s.sc.state ≠ .stopped →
        exec .loadCurve s = .next (answered .locked s.nvs.argument (raise .cmdReject s))) ∧
      (s.sc.state = .stopped →
        (judgeCurve c l = .absent → exec .loadCurve s = .next (failed 254)) ∧
        (judgeCurve c l = .bad → exec .loadCurve s = .next (failed 255)) ∧
        (judgeCurve c l = .good → commitCheck read = none →
          exec .loadCurve s = .next (answered .ok s.nvs.argument
            { s with rcu.curves := s.rcu.curves.set c { read with valid := true } })) ∧
        (∀ d, judgeCurve c l = .good → commitCheck read = some d →
          exec .loadCurve s = .next (answered .invalid d (raise .cmdReject
            { s with rcu.curves := s.rcu.curves.set c read })))))

/-- R153: ARCHIVE FLUSH and its three cases; outside an erase the committed buffer claims its row
unless FULL is set (R152, R157). -/
def Obligations.ArchiveFlushCommand : Prop :=
  ∀ s : State, storeFree s → s.au.erase = none → engineLaw s →
    let answered (t : State) : State :=
      portWrote 0x5D
        { t with nvs.status :=
            { phase := .idle, last := .command .archiveFlush, outcome := .ok
              detail := BitVec.ofNat 8 s.au.filling.length } }
    (s.au.filling = [] → exec .archiveFlush s = .next (answered s)) ∧
    (s.au.filling ≠ [] → s.au.committed = none →
      exec .archiveFlush s = .next (answered (arbitrate
        { s with
          au.committed := some s.au.filling
          au.filling := []
          au.fillingIndex := 1 - s.au.fillingIndex
          au.failedOnce := false
          au.flushPending := false
          nvs.archiveClaim :=
            if s.au.full then s.nvs.archiveClaim
            else some
              { row := s.au.writePointer
                image := .fixed (archiveRowImage s.au.nextSeq s.au.filling) } }))) ∧
    (s.au.filling ≠ [] → s.au.committed ≠ none →
      exec .archiveFlush s = .next (answered { s with au.flushPending := true }))

/-- R159 steps 1 to 3: the acceptance of ARCHIVE ERASE withdraws a waiting archive claim and claims
row 32 with a blank image, unless an archive cycle is running. -/
def Obligations.ArchiveEraseCommand : Prop :=
  ∀ s : State, storeFree s →
    let begun : State :=
      { s with
        nvs.status :=
          { phase := .inProgress, last := .command .archiveErase, outcome := .ok, detail := 32 }
        nvs.archiveClaim := none
        au.erase := some { row := none, failedRow := none } }
    (s.nvs.engine.busy = true ∧ s.nvs.engine.owner = .archive →
      exec .archiveErase s = .next (portWrote 0x5D begun)) ∧
    (s.nvs.engine.busy = false ∨ s.nvs.engine.owner = .host →
      exec .archiveErase s = .next (portWrote 0x5D (arbitrate
        { begun with
          au.erase := some { row := some 32, failedRow := none }
          nvs.archiveClaim := some
            { row := 32, image := .fixed (Vector.replicate 64 0xFF) } })))

/-! ## The program engine and the arbiter (chapter 8) -/

/-- R130 and R147: an IDLE engine takes the waiting claim, of two that of the claimant that did not
own the last cycle; the row becomes BLANK, every other row reads as before. -/
def Obligations.ArbiterStartsCycle : Prop :=
  ∀ n : Store,
    let started (w : Claimant) (c : Claim) : Prop :=
      (arbitrateStore n).engine.busy = true ∧ (arbitrateStore n).engine.row = c.row ∧
      (arbitrateStore n).engine.owner = w ∧ (arbitrateStore n).engine.second = false ∧
      (∀ img, c.image = .fixed img → (arbitrateStore n).engine.image = img) ∧
      (c.image = .merge → ∀ b : Fin 64, (arbitrateStore n).engine.image[b] =
        if n.page.loaded[b] then n.page.data[b] else rowByte n c.row b.val) ∧
      (arbitrateStore n).hostClaim = (if w = .host then none else n.hostClaim) ∧
      (arbitrateStore n).archiveClaim = (if w = .archive then none else n.archiveClaim) ∧
      (arbitrateStore n).complete[c.row] = false ∧
      (∀ b, b < 64 → rowByte (arbitrateStore n) c.row b = 0xFF) ∧
      (∀ r, r ≠ c.row → ∀ b, b < 64 → rowByte (arbitrateStore n) r b = rowByte n r b)
    (n.engine.busy = true → arbitrateStore n = n) ∧
    (n.hostClaim = none → n.archiveClaim = none → arbitrateStore n = n) ∧
    (∀ h, n.engine.busy = false → n.hostClaim = some h →
      n.archiveClaim = none ∨ n.engine.owner = .archive → started .host h) ∧
    (∀ a, n.engine.busy = false → n.archiveClaim = some a →
      n.hostClaim = none ∨ n.engine.owner = .host → started .archive a)

/-- R131: the verdict of an attempt; a failed first attempt is made again, a pass leaves the row reading the
image and every other row as before, a second failure leaves its mark clear, and the end is reported
before the arbiter's choice. That the cells stay as they are at a failed attempt and take the image at
the OK end is the model's choice of log 15, and that the engine's row, attempt, owner and image stay as
the cycle left them is log 14. -/
def Obligations.AttemptVerdict : Prop :=
  (∀ s : State,
     (s.nvs.engine.busy = true → s.nvs.engine.second = false →
       exec (.programAttemptEnd false) s = .next { s with nvs.engine.second := true }) ∧
     (s.nvs.engine.busy = true → s.nvs.engine.second = true →
       exec (.programAttemptEnd false) s =
         .next (arbitrate (reportEnd false { s with nvs.engine.busy := false }))) ∧
     (s.nvs.engine.busy = true →
       exec (.programAttemptEnd true) s = .next (arbitrate (reportEnd true
         { s with
           nvs.engine.busy := false
           nvs.complete := s.nvs.complete.set s.nvs.engine.row true
           nvs.cells :=
             cellsWrite s.nvs.cells (64 * s.nvs.engine.row.val) s.nvs.engine.image.toList })))) ∧
  (∀ (n : Store) (r : Fin 64) (img : RowImage), Memory.wf n.cells = true →
     (∀ b : Fin 64, rowByte (completeRow r img n) r b.val = img[b]) ∧
     (∀ q, q ≠ r → ∀ b, b < 64 → rowByte (completeRow r img n) q b = rowByte n q b))

/-- R144: what a long command of the host's road does on hearing of its row's end. -/
def Obligations.LongCommandRowEnd : Prop :=
  ∀ (s : State) (h : HostRoad), s.nvs.engine.owner = .host → s.nvs.road = some h →
    let ended (o : CmdOutcome) (d : Byte) : State :=
      raise .storeDone
        { s with
          nvs.status := { phase := .idle, last := .command h.command, outcome := o, detail := d }
          nvs.road := none
          nvs.page.loaded :=
            if h.command = .programRow then Vector.replicate 64 false else s.nvs.page.loaded }
    reportEnd false s = ended .verifyFail (BitVec.ofNat 8 h.row.val) ∧
    (h.rest = [] → reportEnd true s = ended .ok h.argument) ∧
    (∀ r img rest, h.rest = (r, img) :: rest →
      reportEnd true s =
        { s with
          nvs.status :=
            { phase := .inProgress, last := .command h.command, outcome := .ok
              detail := BitVec.ofNat 8 r.val }
          nvs.road := some { h with row := r, rest := rest }
          nvs.hostClaim := some { row := r, image := .fixed img } })

/-! ## The archive (chapter 9) -/

/-- R151: an archive record offered is ignored, discarded with ARCHIVE_LOST, or staged as the last
record of the FILLING buffer, which commits when it is full and the other buffer is FREE (R152). -/
def Obligations.ArchiveRecordOffered : Prop :=
  ∀ (s : State) (b : ResultBody),
    (s.au.mode = .off → offerArchive b s = s) ∧
    (s.au.mode ≠ .off → s.au.full = true → s.au.erase = none →
      offerArchive b s = raise .archiveLost s) ∧
    (s.au.mode ≠ .off → s.au.full = false ∨ s.au.erase ≠ none → s.au.filling.length < 4 →
      ((s.au.committed ≠ none ∨ s.au.filling.length < 3 ∧ s.au.flushPending = false) →
        offerArchive b s = { s with au.filling := s.au.filling ++ [b] }) ∧
      (s.au.committed = none → s.au.filling.length = 3 →
        offerArchive b s =
          { s with
            au.committed := some (s.au.filling ++ [b])
            au.filling := []
            au.fillingIndex := 1 - s.au.fillingIndex
            au.failedOnce := false
            au.flushPending := false
            nvs.archiveClaim :=
              if s.au.erase ≠ none ∨ s.au.full = true then s.nvs.archiveClaim
              else some
                { row := s.au.writePointer
                  image := .fixed (archiveRowImage s.au.nextSeq (s.au.filling ++ [b])) } })) ∧
    (s.au.mode ≠ .off → s.au.full = false ∨ s.au.erase ≠ none → 4 ≤ s.au.filling.length →
      offerArchive b s = raise .archiveLost s)

/-- R155 and R156 with R152 and R153: when a FILLING buffer commits on the freeing of the other one (with 4
records, or flush-pending with 1 to 3), and the end OK and the end FAILED of a row of the Archive Unit
where it does not set FULL; after a failure the buffer is claimed once more on the next row, and
discarded with ARCHIVE_LOST the second time. -/
def Obligations.ArchiveRowEnds : Prop :=
  (∀ s : State,
     (s.au.committed = none →
       4 ≤ s.au.filling.length ∨ (s.au.flushPending = true ∧ s.au.filling ≠ []) →
       tryCommit s = fillingCommitted s) ∧
     (s.au.committed ≠ none ∨
         (s.au.filling.length < 4 ∧ (s.au.flushPending = false ∨ s.au.filling = [])) →
       tryCommit s = s)) ∧
  (∀ s : State, s.nvs.engine.owner = .archive → s.au.erase = none →
     s.au.nextSeq ≠ 0xFFFFFFFF → ¬ (s.au.mode = .fill ∧ s.au.writePointer = 63) →
     reportEnd true s = tryCommit
       { s with
         au.committed := none
         au.failedOnce := false
         au.nextSeq := s.au.nextSeq + 1
         au.writePointer := if s.au.writePointer = 63 then 32 else s.au.writePointer + 1 }) ∧
  (∀ (s : State) (rs : List ResultBody), s.nvs.engine.owner = .archive → s.au.erase = none →
     s.au.committed = some rs → s.au.full = false →
     s.au.nextSeq ≠ 0xFFFFFFFF → ¬ (s.au.mode = .fill ∧ s.au.writePointer = 63) →
     let next : Fin 64 := if s.au.writePointer = 63 then 32 else s.au.writePointer + 1
     (s.au.failedOnce = false →
       reportEnd false s =
         { s with
           au.failedOnce := true
           au.nextSeq := s.au.nextSeq + 1
           au.writePointer := next
           nvs.archiveClaim := some
             { row := next, image := .fixed (archiveRowImage (s.au.nextSeq + 1) rs) } }) ∧
     (s.au.failedOnce = true →
       reportEnd false s = tryCommit (raise .archiveLost
         { s with
           au.committed := none
           au.failedOnce := false
           au.nextSeq := s.au.nextSeq + 1
           au.writePointer := next })))

/-- R157 with R155 and R156: an end that sets FULL raises ARCHIVE_FULL, empties both buffers, and
raises ARCHIVE_LOST when a record was discarded by it. -/
def Obligations.RingFull : Prop :=
  ∀ (s : State) (ok : Bool), s.nvs.engine.owner = .archive → s.nvs.engine.busy = false →
    s.au.erase = none →
    s.au.nextSeq = 0xFFFFFFFF ∨ (s.au.mode = .fill ∧ s.au.writePointer = 63) →
    reportEnd ok s =
      raiseIf (decide (s.au.filling ≠ []) || (!ok && s.au.committed.isSome)) .archiveLost
        (raise .archiveFull
          { s with
            au.full := true
            au.filling := []
            au.committed := none
            au.flushPending := false
            au.failedOnce := false
            au.nextSeq :=
              if s.au.nextSeq = 0xFFFFFFFF then 0xFFFFFFFF else s.au.nextSeq + 1
            au.writePointer := if s.au.writePointer = 63 then 32 else s.au.writePointer + 1 })

/-- R159 steps 2 to 6: the end of the archive cycle that an accepted erase waits for is handled as R155 to
R157 give, without a retry claim, and row 32 is claimed; the rows of an erase follow one another whatever
their verdicts; after row 63 the pointer, the sequence and FULL are reset and a COMMITTED buffer claims
row 32. When a FILLING buffer commits (`tryCommit`) is stated in ArchiveRowEnds. -/
def Obligations.EraseRowEnds : Prop :=
  (∀ s : State, s.nvs.engine.owner = .archive → s.nvs.engine.busy = false →
    s.au.erase = some { row := none, failedRow := none } →
    let next : Fin 64 := if s.au.writePointer = 63 then 32 else s.au.writePointer + 1
    let fills : Prop :=
      s.au.nextSeq = 0xFFFFFFFF ∨ (s.au.mode = .fill ∧ s.au.writePointer = 63)
    let eraseBegun (t : State) : State :=
      { t with
        au.erase := some { row := some 32, failedRow := none }
        nvs.archiveClaim := some { row := 32, image := .fixed (Vector.replicate 64 0xFF) }
        nvs.status :=
          { phase := .inProgress, last := .command .archiveErase, outcome := .ok, detail := 32 } }
    let freed : State :=
      { s with
        au.committed := none
        au.failedOnce := false
        au.nextSeq := s.au.nextSeq + 1
        au.writePointer := next }
    (¬ fills →
      reportEnd true s = eraseBegun (tryCommit freed) ∧
      (s.au.failedOnce = false →
        reportEnd false s = eraseBegun
          { s with
            au.failedOnce := true
            au.nextSeq := s.au.nextSeq + 1
            au.writePointer := next }) ∧
      (s.au.failedOnce = true →
        reportEnd false s = eraseBegun (tryCommit (raise .archiveLost freed)))) ∧
    (∀ ok, fills →
      reportEnd ok s = eraseBegun
        (raiseIf (decide (s.au.filling ≠ []) || (!ok && s.au.committed.isSome)) .archiveLost
          (raise .archiveFull
            { freed with
              au.full := true
              au.filling := []
              au.flushPending := false
              au.nextSeq :=
                if s.au.nextSeq = 0xFFFFFFFF then 0xFFFFFFFF else s.au.nextSeq + 1 })))) ∧
  (∀ (s : State) (ok : Bool) (r : Fin 64) (failed : Option (Fin 64)),
    s.nvs.engine.owner = .archive → s.au.erase = some { row := some r, failedRow := failed } →
    let firstFailed : Option (Fin 64) := if ok = false ∧ failed = none then some r else failed
    (∀ h : r.val < 63,
      reportEnd ok s =
        { s with
          au.erase := some { row := some ⟨r.val + 1, by omega⟩, failedRow := firstFailed }
          nvs.archiveClaim := some
            { row := ⟨r.val + 1, by omega⟩, image := .fixed (Vector.replicate 64 0xFF) }
          nvs.status :=
            { phase := .inProgress, last := .command .archiveErase, outcome := .ok
              detail := BitVec.ofNat 8 (r.val + 1) } }) ∧
    (∀ rs, r = 63 → s.au.committed = some rs →
      reportEnd ok s = raise .storeDone
        { s with
          au.writePointer := 32
          au.nextSeq := 1
          au.full := false
          au.erase := none
          nvs.archiveClaim := some { row := 32, image := .fixed (archiveRowImage 1 rs) }
          nvs.status :=
            { phase := .idle, last := .command .archiveErase
              outcome := if firstFailed = none then .ok else .verifyFail
              detail :=
                match firstFailed with
                | none => 0
                | some f => BitVec.ofNat 8 f.val } }) ∧
    (r = 63 → s.au.committed = none →
      reportEnd ok s = tryCommit (raise .storeDone
        { s with
          au.writePointer := 32
          au.nextSeq := 1
          au.full := false
          au.erase := none
          nvs.status :=
            { phase := .idle, last := .command .archiveErase
              outcome := if firstFailed = none then .ok else .verifyFail
              detail :=
                match firstFailed with
                | none => 0
                | some f => BitVec.ofNat 8 f.val } })))

/-- R162: recovery takes the valid ring row of the largest sequence number, of two with that number
the lower one, and none where no row is valid; a row is valid when its count is 1 to 4 and its check is
that of the other 62 bytes (R154). -/
def Obligations.NewestRowFound : Prop :=
  ∀ n : Store,
    (newestRow n = none ↔ ∀ r : Fin 64, 32 ≤ r.val → rowValid (rowImageOf n r) = false) ∧
    (∀ r q, newestRow n = some (r, q) ↔
      32 ≤ r.val ∧ rowValid (rowImageOf n r) = true ∧ rowSeq (rowImageOf n r) = q ∧
      ∀ i : Fin 64, 32 ≤ i.val → rowValid (rowImageOf n i) = true →
        rowSeq (rowImageOf n i) < q ∨ (rowSeq (rowImageOf n i) = q ∧ r ≤ i)) ∧
    (∀ img : RowImage,
      let sum : Nat :=
        ((img.toList.take 6).map BitVec.toNat).sum + ((img.toList.drop 8).map BitVec.toNat).sum
      (rowValid img = true ↔
        1 ≤ img[4].toNat ∧ img[4].toNat ≤ 4 ∧
        img[6].toNat + 256 * img[7].toNat + sum % 65536 = 65535) ∧
      rowSeq img =
        img[0].toNat + 256 * img[1].toNat + 65536 * img[2].toNat + 16777216 * img[3].toNat)

/-! ## Committing writes and plain writes (chapters 2 to 9, 11) -/

/-- R30 and R33: the decisions of a step write and of a configuration write, and the staging group that
a refused configuration write reloads. -/
def Obligations.PlanWrites : Prop :=
  ∀ (s : State) (v : Byte),
    let image : Vector Byte 13 := s.plan.stepStage.set 12 v
    let step (o : CmdOutcome) (t : State) : State :=
      portWrote 0x19
        { t with
          plan.stepStage := image
          sc.status := { last := .stepWrite, outcome := o, detail := s.plan.stepIndex } }
    let five : Vector Byte 5 := s.plan.configStage.set 4 v
    let config (o : CmdOutcome) (t : State) : State :=
      portWrote 0x2C
        { t with sc.status := { last := .configWrite, outcome := o, detail := 16 } }
    let reloaded : State := { s with plan.configStage := configImage s.plan.config }
    (inService 0x19 s →
      (planLock s → exec (.stepWrite v) s = .next (step .locked (raise .cmdReject s))) ∧
      (¬ planLock s → 16 ≤ s.plan.stepIndex.toNat →
        exec (.stepWrite v) s = .next (step .range (raise .cmdReject s))) ∧
      (∀ j : Fin 16, ¬ planLock s → s.plan.stepIndex.toNat = j.val →
        (decodeStep j image = none →
          exec (.stepWrite v) s = .next (step .range (raise .cmdReject s))) ∧
        (∀ e, decodeStep j image = some e →
          exec (.stepWrite v) s =
            .next (step .ok { s with plan.entries := s.plan.entries.set j e })))) ∧
    (inService 0x2C s →
      (planLock s →
        exec (.configWrite v) s = .next (config .locked (raise .cmdReject reloaded))) ∧
      (¬ planLock s →
        (decodeConfig five = none →
          exec (.configWrite v) s = .next (config .range (raise .cmdReject reloaded))) ∧
        (∀ g, decodeConfig five = some g →
          exec (.configWrite v) s =
            .next (config .ok { s with plan.config := g, plan.configStage := five }))))

/-- R79 and R80: the decisions of an entry write and of a count write. -/
def Obligations.CurveEdits : Prop :=
  ∀ (s : State) (v : Byte),
    let five : Vector Byte 5 := s.rcu.entryStage.set 4 v
    let entry (o : CmdOutcome) (d : Byte) (t : State) : State :=
      portWrote 0x33
        { t with
          rcu.entryStage := five
          rcu.editStatus := { last := .entryWrite, outcome := o, detail := d } }
    let count (o : CmdOutcome) (d : Byte) (t : State) : State :=
      portWrote 0x34
        { t with
          rcu.countStage := v
          rcu.editStatus := { last := .countWrite, outcome := o, detail := d } }
    let bad : State := raise .cmdReject s
    (inService 0x33 s →
      (s.sc.state ≠ .stopped → exec (.entryWrite v) s = .next (entry .locked s.rcu.select bad)) ∧
      (s.sc.state = .stopped → 4 ≤ s.rcu.select.toNat →
        exec (.entryWrite v) s = .next (entry .range s.rcu.select bad)) ∧
      (∀ c : Fin 4, s.sc.state = .stopped → s.rcu.select.toNat = c.val →
        (savingCurve c s → exec (.entryWrite v) s = .next (entry .locked s.rcu.select bad)) ∧
        (¬ savingCurve c s →
          (24 ≤ s.rcu.index.toNat →
            exec (.entryWrite v) s = .next (entry .range s.rcu.index bad)) ∧
          (∀ i : Fin 24, s.rcu.index.toNat = i.val →
            let p : Breakpoint := { x := five[2] ++ five[1] ++ five[0], y := five[4] ++ five[3] }
            exec (.entryWrite v) s = .next (entry .ok s.rcu.select
              { s with
                rcu.curves := s.rcu.curves.set c
                  { s.rcu.curves[c] with
                    points := s.rcu.curves[c].points.set i p
                    valid := false } }))))) ∧
    (inService 0x34 s →
      (s.sc.state ≠ .stopped → exec (.countWrite v) s = .next (count .locked s.rcu.select bad)) ∧
      (s.sc.state = .stopped → 4 ≤ s.rcu.select.toNat →
        exec (.countWrite v) s = .next (count .range s.rcu.select bad)) ∧
      (∀ c : Fin 4, s.sc.state = .stopped → s.rcu.select.toNat = c.val →
        (savingCurve c s → exec (.countWrite v) s = .next (count .locked s.rcu.select bad)) ∧
        (¬ savingCurve c s →
          (24 < v.toNat → exec (.countWrite v) s = .next (count .range v bad)) ∧
          (v.toNat ≤ 24 →
            exec (.countWrite v) s = .next (count .ok s.rcu.select
              { s with
                rcu.curves := s.rcu.curves.set c
                  { s.rcu.curves[c] with count := v.toNat, valid := false } })))))

/-- R112, R119 with R121, R125 and R149: writes of the watermark, of the event clear bytes (WATERMARK only
where its condition does not hold), of the event enable bytes, and of the archive control register. -/
def Obligations.ControlWrites : Prop :=
  ∀ (s : State) (v : Byte),
    let cleared (w : BitVec 11) : State :=
      let asked : BitVec 11 :=
        if s.rq.watermark ≤ s.rq.records.length then w &&& 0b11111111101 else w
      { s with ev.flags := s.ev.flags &&& ~~~ asked }
    let control (m : ArchiveMode) : State :=
      { s with au.mode := m, au.flushAtEnd := v.getLsbD 4 }
    (inService 0x3F s →
      exec (.watermarkWrite v) s = .next (portWrote 0x3F
        (if 1 ≤ v.toNat ∧ v.toNat ≤ 32 then
          raiseIf (decide (v.toNat ≤ s.rq.records.length)) .watermark
            { s with rq.watermark := v.toNat }
        else s))) ∧
    (inService 0x57 s →
      exec (.eventClear .first v) s = .next (portWrote 0x57 (cleared (v.setWidth 11)))) ∧
    (inService 0x58 s →
      exec (.eventClear .second v) s =
        .next (portWrote 0x58 (cleared (v.setWidth 11 <<< 8)))) ∧
    (inService 0x59 s →
      exec (.eventEnableWrite .first v) s = .next (portWrote 0x59
        { s with ev.enable := (s.ev.enable &&& 0x700) ||| v.setWidth 11 })) ∧
    (inService 0x5A s →
      exec (.eventEnableWrite .second v) s = .next (portWrote 0x5A
        { s with ev.enable := (s.ev.enable &&& 0x0FF) ||| (v.setWidth 11 <<< 8) })) ∧
    (inService 0x6B s →
      exec (.archiveControlWrite v) s = .next (portWrote 0x6B
        (if v &&& 3 = 0 then control .off else if v &&& 3 = 1 then control .wrap
        else if v &&& 3 = 2 then control .fill else s)))

/-- R133, R136 and R138: a write of the load port, a set of the read pointer, and a read of the read
port. -/
def Obligations.StorePorts : Prop :=
  ∀ (s : State) (v : Byte),
    (inService 0x63 s →
      ((∃ h, s.nvs.road = some h ∧ h.command = .programRow) →
        exec (.loadPortWrite v) s = .next (portWrote 0x63 (raise .cmdReject s))) ∧
      (¬ (∃ h, s.nvs.road = some h ∧ h.command = .programRow) →
        exec (.loadPortWrite v) s = .next (portWrote 0x63
          { s with
            nvs.page.data := s.nvs.page.data.set s.nvs.page.pointer v
            nvs.page.loaded := s.nvs.page.loaded.set s.nvs.page.pointer true
            nvs.page.pointer := s.nvs.page.pointer + 1 }))) ∧
    (inService 0x65 s →
      exec (.readPointerSet v) s = .next (portWrote 0x65
        { s with
          nvs.readStage := s.nvs.readStage.set 1 v
          nvs.readPointer :=
            if v.toNat < 16 then (v ++ s.nvs.readStage[0]).setWidth 12
            else s.nvs.readPointer })) ∧
    (readFrameAt 0x66 s →
      ∀ (r : Fin 64) (b : Nat), b < 64 → s.nvs.readPointer.toNat = 64 * r.val + b →
        exec .readPortRead s = .next (portFetched 0x66
          (if s.nvs.complete[r] then cellRead s.nvs.cells (64 * r.val + b) else 0xFF)
          { s with nvs.readPointer := s.nvs.readPointer + 1 }))

/-- R178 and R179: a write of an address with no row of its own stores its byte, or changes nothing of
the part at a read-only or unassigned address; the frame moves on in every case. -/
def Obligations.PlainWrites : Prop :=
  ∀ (s : State) (v : Byte),
    let wrote (a : Addr) (t : State) : Prop :=
      inService a s → exec (.registerWrite a v) s = .next (portWrote a t)
    wrote 0x03 { s with sc.argument := v } ∧
    wrote 0x5C { s with nvs.argument := v } ∧
    (∀ i : Fin 3, wrote (0x08 + BitVec.ofNat 7 i.val)
      { s with tb.stage := s.tb.stage.set i.val v (by omega) }) ∧
    wrote 0x0C { s with plan.stepIndex := v } ∧
    (∀ i : Fin 12, wrote (0x0D + BitVec.ofNat 7 i.val)
      { s with plan.stepStage := s.plan.stepStage.set i.val v (by omega) }) ∧
    wrote 0x1A { s with plan.viewIndex := v } ∧
    (∀ i : Fin 4, wrote (0x28 + BitVec.ofNat 7 i.val)
      { s with plan.configStage := s.plan.configStage.set i.val v (by omega) }) ∧
    wrote 0x2D { s with rcu.select := v } ∧
    wrote 0x2E { s with rcu.index := v } ∧
    (∀ i : Fin 4, wrote (0x2F + BitVec.ofNat 7 i.val)
      { s with rcu.entryStage := s.rcu.entryStage.set i.val v (by omega) }) ∧
    (∀ p : Fin 64, v.toNat = p.val → wrote 0x62 { s with nvs.page.pointer := p }) ∧
    (64 ≤ v.toNat → wrote 0x62 s) ∧
    wrote 0x64 { s with nvs.readStage := s.nvs.readStage.set 0 v } ∧
    (∀ i : Fin 4, wrote (0x67 + BitVec.ofNat 7 i.val)
      { s with nvs.bootStage := s.nvs.bootStage.set i.val v (by omega) }) ∧
    (∀ a : Addr,
      a.toNat ≤ 0x02 ∨ (0x05 ≤ a.toNat ∧ a.toNat ≤ 0x07) ∨
      (0x1B ≤ a.toNat ∧ a.toNat ≤ 0x27) ∨ (0x35 ≤ a.toNat ∧ a.toNat ≤ 0x3E) ∨
      (0x40 ≤ a.toNat ∧ a.toNat ≤ 0x56) ∨ a.toNat = 0x5B ∨
      (0x5E ≤ a.toNat ∧ a.toNat ≤ 0x61) ∨ a.toNat = 0x66 ∨ 0x6C ≤ a.toNat →
      wrote a s)

/-! ## Reads, frames, lines and clocks -/

/-- R32, R67, R78, R96, R107, R118, R138, R161, R179 and R183 with Tables 12-1 to 12-7: what one complete
read of each address of the window does and gives. A read of the first byte of a read group latches the
whole quantity into the group's copy and returns the copy's first byte, the read port gives a byte of the
store and advances its pointer, and every other address gives its byte and changes nothing. -/
def Obligations.LatchingReads : Prop :=
  (∀ s : State,
    let gives (c : Instr) (a : Addr) (t : State) (v : Byte) : Prop :=
      readAddress a s = (t, v) ∧ (readFrameAt a s → exec c s = .next (portFetched a v t))
    let live (a : Addr) (v : Byte) : Prop := readAddress a s = (s, v)
    let byte (l : List Bool) : Byte := BitVec.ofNat 8 (BitVec.ofBoolListLE l).toNat
    (∀ j : Fin 16, s.plan.viewIndex.toNat = j.val →
      gives .stepViewLatch 0x1B { s with plan.viewCopy := stepImage s.plan.entries[j] }
        (controlByte s.plan.entries[j])) ∧
    (16 ≤ s.plan.viewIndex.toNat →
      gives .stepViewLatch 0x1B { s with plan.viewCopy := Vector.replicate 13 0 } 0) ∧
    gives .timeLatch 0x08 { s with tb.copy := s.tb.count } (s.tb.count.extractLsb' 0 8) ∧
    (∀ (c : Fin 4) (i : Fin 24), s.rcu.select.toNat = c.val → s.rcu.index.toNat = i.val →
      let p : Breakpoint := s.rcu.curves[c].points[i]
      gives .curveEntryLatch 0x2F
        { s with rcu.entryCopy :=
            #v[p.x.extractLsb' 0 8, p.x.extractLsb' 8 8, p.x.extractLsb' 16 8,
               p.y.extractLsb' 0 8, p.y.extractLsb' 8 8] } (p.x.extractLsb' 0 8)) ∧
    (4 ≤ s.rcu.select.toNat ∨ 24 ≤ s.rcu.index.toNat →
      gives .curveEntryLatch 0x2F { s with rcu.entryCopy := Vector.replicate 5 0 } 0) ∧
    gives .limitStatusLatch 0x39 { s with lw.copy := Vector.ofFn fun j => s.lw.records[j].state }
      (limitCode s.lw.records[3].state ++ limitCode s.lw.records[2].state
        ++ limitCode s.lw.records[1].state ++ limitCode s.lw.records[0].state) ∧
    gives .headWindowLatch 0x40 { s with rq.headCopy := s.rq.records.head? }
      (match s.rq.records.head? with
       | none => 0
       | some (.measurement ..) => 1
       | some (.scanEnd ..) => 2) ∧
    gives .eventFlagLatch 0x55 { s with ev.copy := s.ev.flags } (s.ev.flags.extractLsb' 0 8) ∧
    gives .readPointerLatch 0x64 { s with nvs.readCopy := s.nvs.readPointer }
      (s.nvs.readPointer.extractLsb' 0 8) ∧
    (∀ (r : Fin 64) (b : Nat), b < 64 → s.nvs.readPointer.toNat = 64 * r.val + b →
      gives .readPortRead 0x66 { s with nvs.readPointer := s.nvs.readPointer + 1 }
        (rowByte s.nvs r b)) ∧
    (s.au.filling.length ≤ 4 → (∀ rs, s.au.committed = some rs → rs.length ≤ 4) →
      let other : Nat := (s.au.committed.getD []).length
      let here : Nat := s.au.filling.length
      let act : BitVec 2 :=
        if s.au.erase ≠ none then 3
        else if s.nvs.engine.busy = true ∧ s.nvs.engine.owner = .archive then 2
        else if s.nvs.archiveClaim ≠ none then 1 else 0
      let first : Byte :=
        byte [act.getLsbD 0, act.getLsbD 1, s.au.full, s.au.flushPending, s.au.failedOnce,
              decide (s.au.fillingIndex = 1), s.au.committed.isSome, false]
      gives .archiveStatusLatch 0x6C
        { s with au.copy :=
            #v[first,
               BitVec.ofNat 8
                 (if s.au.fillingIndex = 0 then here + 16 * other else other + 16 * here),
               BitVec.ofNat 8 s.au.writePointer.val,
               s.au.nextSeq.extractLsb' 0 8, s.au.nextSeq.extractLsb' 8 8,
               s.au.nextSeq.extractLsb' 16 8, s.au.nextSeq.extractLsb' 24 8] } first) ∧
    live 0x00 (byte
      [decide (s.sc.state = .armed), !decide (s.sc.state = .stopped ∨ s.sc.state = .armed),
       match s.sc.state with
       | .running .waitSpace _ => true
       | _ => false,
       s.sc.pending,
       decide (s.sc.state ≠ .stopped) ||
         match s.nvs.road with
         | some h => decide (h.command = .saveProfile)
         | none => false,
       false, false,
       match s.power with
       | .booting _ => true
       | _ => false]) ∧
    live 0x01 s.sc.scanNumber ∧
    (s.sc.current = none → live 0x02 0xFF) ∧
    (∀ j : Fin 16, s.sc.current = some j → live 0x02 (BitVec.ofNat 8 j.val)) ∧
    live 0x03 s.sc.argument ∧ live 0x04 0 ∧
    live 0x05 (measLastCode s.sc.status.last) ∧ live 0x06 (outcomeCode s.sc.status.outcome) ∧
    live 0x07 s.sc.status.detail ∧
    (∀ i : Fin 4, 1 ≤ i.val →
      live (0x08 + BitVec.ofNat 7 i.val) (s.tb.copy.extractLsb' (8 * i.val) 8)) ∧
    live 0x0C s.plan.stepIndex ∧
    (∀ i : Fin 13, live (0x0D + BitVec.ofNat 7 i.val) s.plan.stepStage[i]) ∧
    live 0x1A s.plan.viewIndex ∧
    (∀ i : Fin 13, 1 ≤ i.val → live (0x1B + BitVec.ofNat 7 i.val) s.plan.viewCopy[i]) ∧
    (∀ i : Fin 5, live (0x28 + BitVec.ofNat 7 i.val) s.plan.configStage[i]) ∧
    live 0x2D s.rcu.select ∧ live 0x2E s.rcu.index ∧
    (∀ i : Fin 5, 1 ≤ i.val → live (0x2F + BitVec.ofNat 7 i.val) s.rcu.entryCopy[i]) ∧
    (∀ c : Fin 4, s.rcu.select.toNat = c.val →
      live 0x34 (BitVec.ofNat 8 s.rcu.curves[c].count)) ∧
    (4 ≤ s.rcu.select.toNat → live 0x34 0) ∧
    live 0x35 (editLastCode s.rcu.editStatus.last) ∧
    live 0x36 (outcomeCode s.rcu.editStatus.outcome) ∧ live 0x37 s.rcu.editStatus.detail ∧
    live 0x38 (byte
      [s.rcu.curves[0].valid, s.rcu.curves[1].valid, s.rcu.curves[2].valid,
       s.rcu.curves[3].valid, false, false, false, false]) ∧
    (∀ k : Fin 4, 1 ≤ k.val →
      live (0x39 + BitVec.ofNat 7 k.val)
        (limitCode (s.lw.copy[4 * k.val + 3]'(by omega))
          ++ limitCode (s.lw.copy[4 * k.val + 2]'(by omega))
          ++ limitCode (s.lw.copy[4 * k.val + 1]'(by omega))
          ++ limitCode (s.lw.copy[4 * k.val]'(by omega)))) ∧
    live 0x3D (BitVec.ofNat 8 s.rq.records.length) ∧
    live 0x3E (byte
      [s.rq.gapPending, decide (s.rq.watermark ≤ s.rq.records.length), false, false, false,
       false, false, false]) ∧
    live 0x3F (BitVec.ofNat 8 s.rq.watermark) ∧
    (∀ i : Fin 21, 1 ≤ i.val →
      live (0x40 + BitVec.ofNat 7 i.val) ((headBytes s.rq.headCopy).getD i.val 0)) ∧
    live 0x56 ((s.ev.copy.extractLsb' 8 3).setWidth 8) ∧ live 0x57 0 ∧ live 0x58 0 ∧
    live 0x59 (s.ev.enable.extractLsb' 0 8) ∧
    live 0x5A ((s.ev.enable.extractLsb' 8 3).setWidth 8) ∧
    live 0x5B (byte
      [decide (s.nvs.status.phase = .inProgress), s.nvs.engine.busy,
       decide (s.nvs.engine.owner = .archive), s.nvs.hostClaim.isSome,
       s.nvs.archiveClaim.isSome, s.pins.wp, false, false]) ∧
    live 0x5C s.nvs.argument ∧ live 0x5D 0 ∧
    live 0x5E (if s.nvs.status.phase = .inProgress then 1 else 0) ∧
    live 0x5F (storeLastCode s.nvs.status.last) ∧ live 0x60 (outcomeCode s.nvs.status.outcome) ∧
    live 0x61 s.nvs.status.detail ∧
    live 0x62 (BitVec.ofNat 8 s.nvs.page.pointer.val) ∧
    live 0x63 s.nvs.page.data[s.nvs.page.pointer] ∧
    live 0x65 ((s.nvs.readCopy.extractLsb' 8 4).setWidth 8) ∧
    (∀ i : Fin 4, live (0x67 + BitVec.ofNat 7 i.val) s.nvs.bootStage[i]) ∧
    live 0x6B (byte
      [decide (s.au.mode = .wrap), decide (s.au.mode = .fill), false, false, s.au.flushAtEnd,
       false, false, false]) ∧
    (∀ i : Fin 7, 1 ≤ i.val → live (0x6C + BitVec.ofNat 7 i.val) s.au.copy[i]) ∧
    (∀ a : Addr, 0x73 ≤ a.toNat → live a 0)) ∧
  headBytes none = List.replicate 21 0 ∧
  (∀ gap b clock osc,
    let ratio : BitVec 24 := BitVec.ofNat 24 (b.ratio.getD 0)
    let value : BitVec 16 := BitVec.ofInt 16 (b.value.getD 0)
    headBytes (some (.measurement gap b clock osc)) =
      [1,
       BitVec.ofBoolListLE [decide (b.outcome = .over), decide (b.outcome = .dead),
         decide (b.outcome = .stall), b.sat, b.clampLow, b.clampHigh, b.pairInvalid, gap],
       BitVec.ofBoolListLE [b.late, b.ratio.isSome, b.value.isSome, b.limit.isSome, false, false,
         false, false],
       b.scan, BitVec.ofNat 8 b.step.val,
       b.stamp.extractLsb' 0 8, b.stamp.extractLsb' 8 8, b.stamp.extractLsb' 16 8,
       b.stamp.extractLsb' 24 8,
       BitVec.ofNat 8 clock, BitVec.ofNat 8 (clock / 256), BitVec.ofNat 8 (clock / 65536),
       BitVec.ofNat 8 osc, BitVec.ofNat 8 (osc / 256), BitVec.ofNat 8 (osc / 65536),
       ratio.extractLsb' 0 8, ratio.extractLsb' 8 8, ratio.extractLsb' 16 8,
       value.extractLsb' 0 8, value.extractLsb' 8 8,
       match b.limit with
       | none => 0
       | some .unknown => 0
       | some (.settled .inside) => 1
       | some (.settled .below) => 2
       | some (.settled .above) => 3]) ∧
  (∀ gap late scan status converted faulted stamp,
    headBytes (some (.scanEnd gap late scan status converted faulted stamp)) =
      [2, BitVec.ofBoolListLE [false, false, false, false, false, false, false, gap],
       BitVec.ofBoolListLE [late, false, false, false, false, false, false, false],
       scan, if status = .complete then 1 else 2,
       stamp.extractLsb' 0 8, stamp.extractLsb' 8 8, stamp.extractLsb' 16 8,
       stamp.extractLsb' 24 8, BitVec.ofNat 8 converted, BitVec.ofNat 8 faulted]
        ++ List.replicate 10 0) ∧
  [CmdOutcome.ok, .state, .locked, .invalid, .range, .unknown, .busy, .prot, .checkFail,
    .verifyFail].map outcomeCode = [0, 1, 2, 3, 4, 5, 6, 7, 8, 9] ∧
  (∀ c code last, (c, code, last) ∈ measurementRows → measLastCode last = code) ∧
  (∀ c code n, (c, code, n) ∈ storeRows → storeLastCode (.command n) = code) ∧
  (∀ code, measLastCode (.raw code) = code ∧ storeLastCode (.raw code) = code) ∧
  measLastCode .none = 0 ∧ storeLastCode .none = 0 ∧ editLastCode .none = 0 ∧
  measLastCode .stepWrite = 0x10 ∧ measLastCode .configWrite = 0x11 ∧
  editLastCode .entryWrite = 0x01 ∧ editLastCode .countWrite = 0x02

/-- R175, R176, R177 and R180: the fall of CSN, the header byte with its fetch in clock mode 0, the address
of the next data byte, SDO, the rise of CSN; a byte acts only where a frame of its direction has come to
its address, and reads on to the next address whose read has an effect, or that is the load port, need no
command (log 2). What one read of an address gives is stated in LatchingReads. -/
def Obligations.Frames : Prop :=
  ∀ s : State,
    (∀ sck, s.port.frame = .idle → s.power ≠ .held →
      exec (.frameStart sck) s = .next
        { s with port :=
            { frame := .header (if sck then .mode3 else .mode0), sdo := none } }) ∧
    (∀ sck, s.port.frame = .idle → s.power = .held →
      exec (.frameStart sck) s = .next { s with port := { frame := .ignored, sdo := none } }) ∧
    (∀ m b, s.port.frame = .header m → s.power ≠ .held →
      let a : Addr := b.setWidth 7
      let opened : State :=
        { s with port :=
            { frame := .data m (if 128 ≤ b.toNat then .read else .write) a, sdo := none } }
      (b.toNat < 128 ∨ m = .mode3 → exec (.headerByte b) s = .next opened) ∧
      (128 ≤ b.toNat → m = .mode0 →
        exec (.headerByte b) s = .next
          (portFetched a (readAddress a opened).2 (readAddress a opened).1))) ∧
    (∀ m d x a v, s.port.frame = .data m d x →
      let next : Addr := if a = 0x63 ∨ a = 0x66 then a else a + 1
      (portWrote a s).port = { frame := .data m d next, sdo := none } ∧
      (portFetched a v s).port = { frame := .data m d next, sdo := some v }) ∧
    exec .frameEnd s = .next { s with port := { frame := .idle, sdo := none } } ∧
    (∀ a, s.power = .held ∨ ¬ writeFrameAt a s → ∀ v,
      (a = 0x04 → ∀ c code last, (c, code, last) ∈ measurementRows → exec c s = .next s) ∧
      (a = 0x5D → ∀ c code n, (c, code, n) ∈ storeRows → exec c s = .next s) ∧
      (∀ c, (c, a) ∈
          [(Instr.unknownMeasurementCommand v, (0x04 : Addr)), (.unknownStoreCommand v, 0x5D),
           (.stepWrite v, 0x19), (.configWrite v, 0x2C), (.timeSet v, 0x0B),
           (.entryWrite v, 0x33), (.countWrite v, 0x34), (.watermarkWrite v, 0x3F),
           (.eventClear .first v, 0x57), (.eventClear .second v, 0x58),
           (.eventEnableWrite .first v, 0x59), (.eventEnableWrite .second v, 0x5A),
           (.loadPortWrite v, 0x63), (.readPointerSet v, 0x65),
           (.archiveControlWrite v, 0x6B)] → exec c s = .next s) ∧
      exec (.registerWrite a v) s = .next s) ∧
    (∀ a, ¬ readFrameAt a s →
      ∀ c, (c, a) ∈
          [(Instr.timeLatch, (0x08 : Addr)), (.stepViewLatch, 0x1B), (.curveEntryLatch, 0x2F),
           (.limitStatusLatch, 0x39), (.headWindowLatch, 0x40), (.eventFlagLatch, 0x55),
           (.readPointerLatch, 0x64), (.readPortRead, 0x66), (.archiveStatusLatch, 0x6C)] →
        exec c s = .next s) ∧
    (∀ x : Addr,
      nextReadStop x =
        if x ≤ 0x08 then 0x08 else if x ≤ 0x1B then 0x1B else if x ≤ 0x2F then 0x2F
        else if x ≤ 0x39 then 0x39 else if x ≤ 0x40 then 0x40 else if x ≤ 0x55 then 0x55
        else if x ≤ 0x63 then 0x63 else if x ≤ 0x64 then 0x64 else if x ≤ 0x66 then 0x66
        else if x ≤ 0x6C then 0x6C else 0x08)

/-- R49 and R139: an edge on TRG is a trigger exactly when LINE is a source and the edge is the selected
one, and a change of WP only changes the level that the store reports and samples. -/
def Obligations.Lines : Prop :=
  ∀ s : State,
    (∀ e, s.plan.config.line = true → e = s.plan.config.edge →
      exec (.trgEdge e) s = .next (takeTrigger { s with pins.trg := decide (e = .rising) })) ∧
    (∀ e, s.plan.config.line = false ∨ e ≠ s.plan.config.edge →
      exec (.trgEdge e) s = .next { s with pins.trg := decide (e = .rising) }) ∧
    (∀ level, exec (.wpChange level) s = .next { s with pins.wp := level })

/-- R52, R66 and R68: ticks advance the Time Base; they run the interval timer, which is reloaded at the
tick that brings it to 0 and goes on, so that every period is 16 times the interval long, whatever the
ticks are counted together with; an expiry is a trigger; and a time set writes the count from the staging
bytes. That an expiry is kept until the command that takes its trigger is the model's choice of log 5. -/
def Obligations.TimeBaseAndTimer : Prop :=
  ∀ s : State,
    (∀ n, s.power ≠ .held →
      let ticked (t : Option IntervalTimer) : State :=
        { s with tb.count := s.tb.count + BitVec.ofNat 32 n, sc.timer := t }
      (s.sc.timer = none → exec (.timeBaseTick n) s = .next (ticked none)) ∧
      (∀ u p e, s.sc.timer = some { units := u, phase := p, expired := e } → p + n < 16 * u →
        exec (.timeBaseTick n) s = .next (ticked (some
          { units := u - (p + n) / 16, phase := (p + n) % 16, expired := e }))) ∧
      (∀ u p e k m, s.sc.timer = some { units := u, phase := p, expired := e } →
        1 ≤ u → p < 16 → m < 16 * s.plan.config.units.toNat →
        p + n = 16 * u + 16 * s.plan.config.units.toNat * k + m →
        exec (.timeBaseTick n) s = .next (ticked (some
          { units := s.plan.config.units.toNat - m / 16, phase := m % 16
            expired := e + 1 + k })))) ∧
    (∀ m n, planLaw s → timerLaw s → ∃ t,
      exec (.timeBaseTick m) s = .next t ∧
      exec (.timeBaseTick n) t = exec (.timeBaseTick (m + n)) s) ∧
    (∀ t : IntervalTimer, s.sc.timer = some t → t.expired ≠ 0 →
      exec .intervalExpiry s = .next (takeTrigger
        { s with sc.timer := some { t with expired := t.expired - 1 } })) ∧
    (∀ v, inService 0x0B s →
      exec (.timeSet v) s = .next (portWrote 0x0B
        { s with
          tb.stage := s.tb.stage.set 3 v
          tb.count := v ++ s.tb.stage[2] ++ s.tb.stage[1] ++ s.tb.stage[0] }))

/-! ## Conversions (chapter 1) -/

/-- R5 with R1 and R10: what `n` periods of the conversion clock and `n` cycles of one source count, up to
the count that ends the phase, where they hold until the end is taken (the model's choice of log 4), but
for the period that meets the close of a CYCLES gate at the clock's ceiling (R10). -/
def Obligations.Counting : Prop :=
  ∀ (s : State) (n : Nat),
    (s.cu.state = .off →
      exec (.cclkPeriod n) s = .next s ∧ ∀ src, exec (.oscillationCycle src n) s = .next s) ∧
    (∀ src, sourceOf s.cu.path ≠ src → exec (.oscillationCycle src n) s = .next s) ∧
    (s.cu.state = .settle → s.cu.settleCounter < s.cu.settleCount →
      s.cu.clockCounter < 65536 → s.cu.oscCounter ≤ 1048575 →
      exec (.cclkPeriod n) s =
        .next { s with cu.clockCounter := min (s.cu.clockCounter + n) 65536 } ∧
      (let k : Nat := min n (s.cu.settleCount - s.cu.settleCounter)
       exec (.oscillationCycle (sourceOf s.cu.path) n) s = .next
        { s with
          cu.settleCounter := s.cu.settleCounter + k
          cu.oscCounter := min (s.cu.oscCounter + k) 1048575 })) ∧
    (s.cu.state = .gate → s.cu.gateMode = .time → s.cu.clockCounter < s.cu.gateLength →
      s.cu.oscCounter ≤ 1048575 →
      exec (.cclkPeriod n) s =
        .next { s with cu.clockCounter := min (s.cu.clockCounter + n) s.cu.gateLength } ∧
      exec (.oscillationCycle (sourceOf s.cu.path) n) s =
        .next { s with cu.oscCounter := min (s.cu.oscCounter + n) 1048575 }) ∧
    (s.cu.state = .gate → s.cu.gateMode = .cycles → s.cu.oscCounter < s.cu.gateLength →
      s.cu.gateLength ≤ 1048575 → s.cu.clockCounter < 16777215 →
      exec (.cclkPeriod n) s =
        .next { s with cu.clockCounter := min (s.cu.clockCounter + n) 16777215 } ∧
      exec (.oscillationCycle (sourceOf s.cu.path) n) s =
        .next { s with cu.oscCounter := min (s.cu.oscCounter + n) s.cu.gateLength }) ∧
    (let held : Prop :=
       exec (.cclkPeriod n) s = .next s ∧ ∀ src, exec (.oscillationCycle src n) s = .next s
     (s.cu.state = .settle →
       s.cu.settleCounter = s.cu.settleCount ∨ s.cu.clockCounter = 65536 → held) ∧
     (s.cu.state = .gate → s.cu.gateMode = .time → s.cu.clockCounter = s.cu.gateLength → held) ∧
     (s.cu.state = .gate → s.cu.gateMode = .cycles → s.cu.oscCounter ≠ s.cu.gateLength →
       s.cu.clockCounter = 16777215 → held) ∧
     (s.cu.state = .gate → s.cu.gateMode = .cycles → s.cu.oscCounter = s.cu.gateLength →
       (s.cu.clockCounter ≠ 16777214 ∨ n = 0 → held) ∧
       (s.cu.clockCounter = 16777214 → 1 ≤ n →
         exec (.cclkPeriod n) s = .next { s with cu.clockCounter := 16777215 } ∧
         ∀ src, exec (.oscillationCycle src n) s = .next s)))

/-- R6 to R12 and R15, each end as the command that takes it when it is due (log 4): the end of a settle
opens the gate; every end of a conversion releases the leg, enters OFF, and hands over outcome, counts and
the Time Base's count. A CYCLES gate closes GOOD with whatever the clock counter has reached; that this
holds also of 0 is the model's choice of log 18. -/
def Obligations.PhaseEnds : Prop :=
  ∀ s : State,
    let ended (o : ConvOutcome) : Host.Outcome State Fault Refusal :=
      .next (takeResult
        { outcome := o, clock := s.cu.clockCounter, osc := s.cu.oscCounter, stamp := s.tb.count }
        { s with cu.energized := none, cu.state := .off })
    (s.cu.state = .settle → s.cu.settleCounter = s.cu.settleCount →
      exec .settleComplete s = .next
        { s with cu.clockCounter := 0, cu.oscCounter := 0, cu.state := .gate }) ∧
    (s.cu.state = .settle → s.cu.settleCounter ≠ s.cu.settleCount →
      s.cu.clockCounter = 65536 → exec .settleTimeout s = ended .stall) ∧
    (s.cu.state = .gate → s.cu.gateMode = .time → s.cu.clockCounter = s.cu.gateLength →
      (s.cu.oscCounter = 0 → exec .timeGateClose s = ended .dead) ∧
      (1 ≤ s.cu.oscCounter → s.cu.oscCounter ≤ 1048574 →
        exec .timeGateClose s = ended .good) ∧
      (s.cu.oscCounter = 1048575 → exec .timeGateClose s = ended .over)) ∧
    (s.cu.state = .gate → s.cu.gateMode = .cycles →
      (s.cu.oscCounter = s.cu.gateLength → exec .cyclesGateClose s = ended .good) ∧
      (s.cu.oscCounter ≠ s.cu.gateLength → s.cu.clockCounter = 16777215 →
        exec .stallCeiling s = ended .stall))

/-! ## Results and scan ends (chapters 3 to 6) -/

/-- R57: the path of a result through tallies, slot, ratio, limit, record, archive copy and on to the
next enabled step or to the end of the scan. -/
def Obligations.ResultTaken : Prop :=
  ∀ (s : State) (r : ConvResult) (j : Fin 16), s.sc.current = some j →
    let e : StepEntry := s.plan.entries[j]
    let s1 : State :=
      { s with
        sc.converted := if r.outcome = .good then s.sc.converted + 1 else s.sc.converted
        sc.faulted := if r.outcome = .good then s.sc.faulted else s.sc.faulted + 1
        rcu.slots := s.rcu.slots.set j
          { valid := decide (r.outcome = .good), clock := r.clock, osc := r.osc } }
    let a : RatioAnswer := formRatio j s1
    let w : State × LimitAnswer := watchLimit j a.value s1
    let body : ResultBody :=
      { scan := s.sc.scanNumber, step := j, stamp := r.stamp, outcome := r.outcome, sat := a.sat
        clampLow := a.clampLow, clampHigh := a.clampHigh, pairInvalid := a.pairInvalid
        late := s.sc.late, ratio := a.ratio, value := a.value, limit := w.2.state }
    let s2 : State :=
      if e.report = .all ∨ (e.report = .limitOnly ∧ w.2.changed = true) then
        offerRecord (.measurement false body r.clock r.osc) w.1
      else w.1
    let s3 : State := if r.outcome = .good then s2 else raise .convFault s2
    let s4 : State := if e.archive = true then arbitrate (offerArchive body s3) else s3
    (∀ k, isNextEnabled s.plan j k →
      (mayStart s4 → takeResult r s = startStep k s4) ∧
      (¬ mayStart s4 →
        takeResult r s =
          { s4 with sc.current := some k, sc.state := .running .waitSpace true })) ∧
    ((∀ k : Fin 16, j < k → s.plan.entries[k].enabled = false) →
      takeResult r s = endScan s4)

/-- R60: the SCAN_END record, SCAN_END and the flush of a COMPLETE end, and what follows it; and by R153
what the scan-end signal of a COMPLETE or STOPPED end does: with the flush option on it flushes the
FILLING buffer, with it off nothing. -/
def Obligations.ScanEnds : Prop :=
  ∀ s : State,
    let offered : State :=
      offerRecord (.scanEnd false s.sc.late s.sc.scanNumber .complete s.sc.converted
        s.sc.faulted s.tb.count) s
    let told : State := arbitrate (signalScanEnd s)
    let closed : State :=
      { s with
        sc.current := none
        rq := offered.rq
        ev := (raise .scanEnd offered).ev
        au := told.au
        nvs := told.nvs }
    (s.plan.config.repeatMode = .oneShot →
      endScan s =
        { closed with sc.pending := false, sc.timer := none, sc.state := .stopped }) ∧
    (s.plan.config.repeatMode = .repeating →
      (s.sc.pending = true → endScan s = startScan true { closed with sc.pending := false }) ∧
      (s.sc.pending = false → s.plan.config.immediate = true →
        endScan s = startScan false closed) ∧
      (s.sc.pending = false → s.plan.config.immediate = false →
        endScan s = { closed with sc.state := .armed })) ∧
    (s.au.flushAtEnd = false → signalScanEnd s = s) ∧
    (s.au.flushAtEnd = true →
      (s.au.filling = [] → signalScanEnd s = s) ∧
      (s.au.filling ≠ [] → s.au.committed = none → signalScanEnd s = fillingCommitted s) ∧
      (s.au.filling ≠ [] → s.au.committed ≠ none →
        signalScanEnd s = { s with au.flushPending := true }))

/-- R72 to R75, R85 and R86: when a ratio is formed and what it is where its denominator is at least 1,
saturated at 16,777,215; and the value that a curve which passes its commit check gives it. Where the
denominator is 0 (log 18) a ratio is formed all the same, for every value of the free quotient. -/
def Obligations.RatioAndValue : Prop :=
  (∀ (s : State) (j : Fin 16),
    let e : StepEntry := s.plan.entries[j]
    let own : PeriodSlot := s.rcu.slots[j]
    (e.pair = none →
      formRatio j s =
        { ratio := none, value := none, sat := false, clampLow := false, clampHigh := false
          pairInvalid := false }) ∧
    (∀ k, e.pair = some k →
      let other : PeriodSlot := s.rcu.slots[k]
      let q : Nat := (own.clock * other.osc * 65536) / (own.osc * other.clock)
      (own.valid = false ∨ other.valid = false →
        formRatio j s =
          { ratio := none, value := none, sat := false, clampLow := false, clampHigh := false
            pairInvalid := true }) ∧
      (own.valid = true → other.valid = true →
        ∃ r, (formRatio j s).ratio = some r ∧ r ≤ 16777215 ∧
          (formRatio j s).pairInvalid = false) ∧
      (own.valid = true → other.valid = true → 1 ≤ own.osc * other.clock → e.curve = none →
        formRatio j s =
          { ratio := some (min q 16777215), value := none, sat := decide (16777215 < q)
            clampLow := false, clampHigh := false, pairInvalid := false }) ∧
      (∀ c, own.valid = true → other.valid = true → 1 ≤ own.osc * other.clock →
        e.curve = some c →
        let p : Placed := placeRatio (min q 16777215) (activePoints s.rcu.curves[c])
        formRatio j s =
          { ratio := some (min q 16777215), value := p.value, sat := decide (16777215 < q)
            clampLow := p.clampLow, clampHigh := p.clampHigh, pairInvalid := false }))) ∧
  (∀ (c : Curve) (x : Nat), commitCheck c = none →
    let xs (i : Fin 24) : Int := c.points[i].x.toNat
    let ys (i : Fin 24) : Int := c.points[i].y.toInt
    ((x : Int) < xs 0 →
      placeRatio x (activePoints c) =
        { value := some (ys 0), clampLow := true, clampHigh := false }) ∧
    (∀ l : Fin 24, l.val + 1 = c.count →
      (xs l < x →
        placeRatio x (activePoints c) =
          { value := some (ys l), clampLow := false, clampHigh := true }) ∧
      ((x : Int) = xs l →
        placeRatio x (activePoints c) =
          { value := some (ys l), clampLow := false, clampHigh := false })) ∧
    (∀ i k : Fin 24, k.val = i.val + 1 → k.val < c.count → xs i ≤ x → (x : Int) < xs k →
      placeRatio x (activePoints c) =
        { value := some (ys i + ((x - xs i) * (ys k - ys i)).tdiv (xs k - xs i))
          clampLow := false, clampHigh := false }))

/-- R89 to R93: which results the Limit Watch acts on, the class of a value, the consecutive filter,
and the changes that raise LIMIT. -/
def Obligations.LimitUpdate : Prop :=
  ∀ (s : State) (j : Fin 16) (v : Int),
    let e : StepEntry := s.plan.entries[j]
    let r : LimitRecord := s.lw.records[j]
    let cls : LimitClass :=
      if v < e.low.toInt then .below else if e.high.toInt < v then .above else .inside
    let acted (u : LimitRecord) (announce : Bool) : Prop :=
      watchLimit j (some v) s =
        (raiseIf announce .limit { s with lw.records := s.lw.records.set j u },
         { state := some u.state, changed := decide (r.state ≠ u.state) })
    let settles : Prop :=
      acted { state := .settled cls, candidate := none, count := 0 }
        (!(decide (r.state = .unknown) && decide (cls = .inside)))
    watchLimit j none s = (s, { state := none, changed := false }) ∧
    (e.limits = false → watchLimit j (some v) s = (s, { state := none, changed := false })) ∧
    (e.limits = true → r.state = .settled cls →
      acted { r with candidate := none, count := 0 } false) ∧
    (e.limits = true → r.state ≠ .settled cls → r.candidate = some cls →
      (r.count + 1 = e.filter → settles) ∧
      (r.count + 1 ≠ e.filter → acted { r with count := r.count + 1 } false)) ∧
    (e.limits = true → r.state ≠ .settled cls → r.candidate ≠ some cls →
      (e.filter = 1 → settles) ∧
      (e.filter ≠ 1 → acted { r with candidate := some cls, count := 1 } false))

/-- R104, R105, R112 and R126: what becomes of an offered record, and when ATN is asserted. -/
def Obligations.QueueOfferAndAttention : Prop :=
  ∀ s : State,
    (∀ g b clock osc, s.rq.records.length < 32 →
      offerRecord (.measurement g b clock osc) s =
        raiseIf (decide (s.rq.watermark ≤ s.rq.records.length + 1)) .watermark
          { s with
            rq.records := s.rq.records ++ [.measurement s.rq.gapPending b clock osc]
            rq.gapPending := false }) ∧
    (∀ g late n st conv fault stamp, s.rq.records.length < 32 →
      offerRecord (.scanEnd g late n st conv fault stamp) s =
        raiseIf (decide (s.rq.watermark ≤ s.rq.records.length + 1)) .watermark
          { s with
            rq.records :=
              s.rq.records ++ [.scanEnd s.rq.gapPending late n st conv fault stamp]
            rq.gapPending := false }) ∧
    (∀ r, 32 ≤ s.rq.records.length →
      offerRecord r s = raise .queueDrop { s with rq.gapPending := true }) ∧
    (atnAsserted s = true ↔
      ∃ f, flagSet s f = true ∧ s.ev.enable.getLsbD (flagPos f) = true)

/-! ## Images (chapters 9, 10 and 12) -/

/-- R31, R182 and R185: a step image that decodes gives the entry whose image it is, but for the
unassigned bit of its control byte; every legal entry's image decodes to it; and a configuration image
decodes exactly when it is that of a configuration with an interval of 1 to 65,535. -/
def Obligations.StepImageRoundTrip : Prop :=
  (∀ (j : Fin 16) (img : Vector Byte 13) (e : StepEntry), decodeStep j img = some e →
    legalEntry j e ∧ stepImage e = img.set 0 (img[0] &&& 0x7F)) ∧
  (∀ (j : Fin 16) (e : StepEntry), legalEntry j e → decodeStep j (stepImage e) = some e) ∧
  (∀ (img : Vector Byte 5) (g : ScanConfig),
    decodeConfig img = some g ↔ configImage g = img ∧ 1 ≤ g.units.toNat)

/-- R154, R163 to R166 and R185: rows that hold the image of a curve, of a legal plan or of a boot record
are judged good and read back as what was saved, and the image of a committed buffer is a valid row of
its sequence number; an image is absent, bad or good by its tag, its number, its count and its check, in
this order (R163), and so is a boot record, whose fields must decode as well (R166, R173). -/
def Obligations.StoredImageRoundTrip : Prop :=
  (∀ (n : Store) (c : Fin 4) (v : Curve), v.count ≤ 24 →
    rowImageOf n (rowNo (16 + 2 * c.val)) = rowOfImage (curveImage c v) 0 →
    rowImageOf n (rowNo (17 + 2 * c.val)) = rowOfImage (curveImage c v) 1 →
    judgeCurve c (curveRowsBytes n c) = .good ∧
    imageCount (curveRowsBytes n c) = v.count ∧
    imagePoints (curveRowsBytes n c) = activePoints v) ∧
  (∀ (n : Store) (p : Fin 4) (es : Vector StepEntry 16) (g : ScanConfig),
    (∀ j : Fin 16, legalEntry j es[j]) → 1 ≤ g.units.toNat →
    (∀ k : Fin 4,
      rowImageOf n (rowNo (4 * p.val + k.val)) = rowOfImage (profileImage p es g) k.val) →
    readProfile p (profileRowsBytes n p) = .good es g) ∧
  (∀ (n : Store) (regs : Vector Byte 4), bootRegisterFault regs = none →
    rowImageOf n 24 = rowOfImage (bootImage regs) 0 →
    ∃ ch, readBoot (bootRowBytes n) = some ch ∧ bootRegisters ch = regs) ∧
  (∀ (q : Word32) (rs : List ResultBody), 1 ≤ rs.length → rs.length ≤ 4 →
    rowValid (archiveRowImage q rs) = true ∧ rowSeq (archiveRowImage q rs) = q.toNat) ∧
  (∀ (n : Store) (c : Fin 4),
    let checked (l : List Byte) (k : Nat) : Prop :=
      (l.getD k 0).toNat + 256 * (l.getD (k + 1) 0).toNat
        + ((l.take k).map BitVec.toNat).sum % 65536 = 65535
    let judgedBy (j : Judged) (absent good : Prop) : Prop :=
      (absent → j = .absent) ∧ (¬ absent → good → j = .good) ∧ (¬ absent → ¬ good → j = .bad)
    (let l : List Byte := profileRowsBytes n c
     judgedBy (judgeProfile c l) (l.getD 0 0 = 0xFF)
       (l.getD 0 0 = 0x5C ∧ (l.getD 1 0).toNat = c.val ∧ checked l 215)) ∧
    (let l : List Byte := curveRowsBytes n c
     let count : Nat := (l.getD 2 0).toNat
     judgedBy (judgeCurve c l) (l.getD 0 0 = 0xFF)
       (l.getD 0 0 = 0x6C ∧ (l.getD 1 0).toNat = c.val ∧ count ≤ 24 ∧
         checked l (3 + 5 * count))) ∧
    (let l : List Byte := bootRowBytes n
     let regs : Vector Byte 4 := #v[l.getD 1 0, l.getD 2 0, l.getD 3 0, l.getD 4 0]
     (l.getD 0 0 = 0xFF →
       readBoot l = some { profile := none, autostart := false, mode := .off, flush := false }) ∧
     (l.getD 0 0 ≠ 0xFF →
       (readBoot l = none ↔
         l.getD 0 0 ≠ 0x7C ∨ ¬ checked l 5 ∨ bootRegisterFault regs ≠ none) ∧
       ∀ ch, readBoot l = some ch → bootRegisters ch = regs)))

/-! ## Full reset and start-up (chapters 10 and 11) -/

/-- The values after a full reset (R3, R40, Tables 2-1, 2-2, 3-1, 5-1, 6-1, 8-2 and 9-1), with the rows
and their marks as they were (R127). The frame in hand is lost and SDO is released (R180). That the lines
keep their levels is the model's reading of log 9. -/
def Obligations.FullResetValues : Prop :=
  ∀ s : State,
    exec .fullReset s = .next
      { power := .held
        port := { frame := if s.port.frame = .idle then .idle else .ignored, sdo := none }
        pins := s.pins
        cu :=
          { state := .off, path := .leg .a .ref, gateMode := .time, gateLength := 256
            settleCount := 0, settleCounter := 0, clockCounter := 0, oscCounter := 0
            energized := none }
        plan :=
          { entries := Vector.replicate 16
              { enabled := false, path := .leg .a .ref, gateMode := .time, gateLength := 256
                settle := 0, pair := none, curve := none, limits := false, filter := 1
                low := BitVec.ofInt 16 (-32768), high := BitVec.ofInt 16 32767, report := .all
                archive := false }
            config :=
              { line := false, interval := false, immediate := false, edge := .rising
                repeatMode := .oneShot, units := 64, policy := .hold }
            stepIndex := 0
            stepStage := #v[0, 0, 0, 1, 0, 0, 0xFF, 0xFF, 1, 0, 0x80, 0xFF, 0x7F]
            viewIndex := 0
            viewCopy := #v[0, 0, 0, 1, 0, 0, 0xFF, 0xFF, 1, 0, 0x80, 0xFF, 0x7F]
            configStage := #v[0, 0, 0, 0x40, 0] }
        sc :=
          { state := .stopped, current := none, scanNumber := 0, pending := false
            fromLatch := false, late := false, converted := 0, faulted := 0, timer := none
            argument := 0, status := { last := .none, outcome := .ok, detail := 0 } }
        tb := { count := 0, copy := 0, stage := Vector.replicate 4 0 }
        rcu :=
          { slots := Vector.replicate 16 { valid := false, clock := 0, osc := 0 }
            curves := Vector.replicate 4
              { count := 0, points := Vector.replicate 24 { x := 0, y := 0 }, valid := false }
            select := 0, index := 0, entryStage := Vector.replicate 5 0, countStage := 0
            entryCopy := Vector.replicate 5 0
            editStatus := { last := .none, outcome := .ok, detail := 0 } }
        lw :=
          { records := Vector.replicate 16 { state := .unknown, candidate := none, count := 0 }
            copy := Vector.replicate 16 .unknown }
        rq := { records := [], gapPending := false, watermark := 16, headCopy := none }
        ev := { flags := 0, enable := 0, copy := 0 }
        nvs :=
          { cells := s.nvs.cells, complete := s.nvs.complete
            engine :=
              { busy := false, row := 0, owner := .archive, second := false
                image := Vector.replicate 64 0xFF }
            hostClaim := none, archiveClaim := none
            page :=
              { data := Vector.replicate 64 0xFF, loaded := Vector.replicate 64 false
                pointer := 0 }
            readPointer := 0, readStage := Vector.replicate 2 0, readCopy := 0, argument := 0
            status := { phase := .idle, last := .none, outcome := .ok, detail := 0 }
            road := none, bootStage := #v[0xFF, 0, 0, 0] }
        au :=
          { mode := .off, flushAtEnd := false, full := false, fillingIndex := 0, filling := []
            committed := none, flushPending := false, failedOnce := false, writePointer := 32
            nextSeq := 1, erase := none, copy := #v[0, 0, 0x20, 1, 0, 0, 0] }
        pending := s.pending }

/-- The state after a full reset meets every law that the steps keep. -/
def Obligations.ResetMeetsLaws : Prop :=
  Memory.wf State.reset.nvs.cells = true ∧ engineLaw State.reset ∧ roadLaw State.reset ∧
  boundsLaw State.reset ∧ planLaw State.reset ∧ curvesLaw State.reset ∧ legLaw State.reset ∧
  watermarkLaw State.reset ∧ armedLaw State.reset ∧ scanLaw State.reset ∧ holdLaw State.reset ∧
  timerLaw State.reset ∧ portLaw State.reset

/-- R162, R173 and R174: start-up from a full reset, and what its six steps leave. That the end of the
reset and the steps are one command with a number of steps is the table's row (log 6). -/
def Obligations.StartUp : Prop :=
  ∀ s : State, s.power = .held →
    (∀ n, n ≤ 5 → ∃ t b, exec (.startUp n) s = .next t ∧ t.power = .booting b ∧ b.stage = n) ∧
    ∃ t, exec (.startUp 6) s = .next t ∧ t.power = .running ∧
      t.nvs.cells = s.nvs.cells ∧ t.nvs.complete = s.nvs.complete ∧
      t.nvs.readPointer = s.nvs.readPointer ∧
      (newestRow s.nvs = none → t.au.writePointer = 32 ∧ t.au.nextSeq = 1) ∧
      (∀ r q, newestRow s.nvs = some (r, q) →
        t.au.writePointer = (if r = 63 then 32 else r + 1) ∧
        t.au.nextSeq = (if q = 4294967295 then 0xFFFFFFFF else BitVec.ofNat 32 (q + 1))) ∧
      (∀ c : Fin 4,
        let l : List Byte := curveRowsBytes s.nvs c
        (judgeCurve c l = .good → t.rcu.curves[c] = curveOfImage l) ∧
        (judgeCurve c l ≠ .good → t.rcu.curves[c] = s.rcu.curves[c])) ∧
      (let found : Option BootChoices := readBoot (bootRowBytes s.nvs)
       let ch : BootChoices := found.getD defaultChoices
       let profileFails : Prop :=
         ∃ p, ch.profile = some p ∧
           ∀ es g, readProfile p (profileRowsBytes s.nvs p) ≠ .good es g
       t.nvs.bootStage = bootRegisters ch ∧ t.au.mode = ch.mode ∧ t.au.flushAtEnd = ch.flush ∧
       (t.au.full = true ↔ s.au.full = true ∨
         ∃ r q, newestRow s.nvs = some (r, q) ∧
           (q = 4294967295 ∨ (ch.mode = .fill ∧ r = 63))) ∧
       (ch.profile = none ∨ profileFails → t.plan = s.plan) ∧
       (∀ p es g, ch.profile = some p →
         readProfile p (profileRowsBytes s.nvs p) = .good es g →
         t.plan =
           { s.plan with entries := es, config := g, configStage := configImage g }) ∧
       (ch.autostart = false ∨ profileFails ∨ validatePlan t ≠ none → t.sc = s.sc) ∧
       (ch.autostart = true → ¬ profileFails → validatePlan t = none →
         t.sc.state ≠ .stopped) ∧
       (flagSet t .bootFault = true ↔
         flagSet s .bootFault = true ∨
         (∃ c : Fin 4, judgeCurve c (curveRowsBytes s.nvs c) = .bad) ∨ found = none ∨
         profileFails ∨
         (ch.autostart = true ∧ ¬ profileFails ∧ validatePlan t ≠ none)))

/-! ## Laws that every step keeps -/

/-- The store's laws: the cells keep their canonical form; a row under a cycle is BLANK and no claim
waits at an IDLE engine (R128, R146); the store phase is IN_PROGRESS exactly while a long command runs
(R144, R145). -/
def Obligations.StoreLawsKept : Prop :=
  ∀ s t : State, step s = .next t →
    (Memory.wf s.nvs.cells = true → Memory.wf t.nvs.cells = true) ∧
    (engineLaw s → engineLaw t) ∧ (roadLaw s → roadLaw t)

/-- The bounds of the queue, of the staging buffers and of the ring (R99, R112, R148). -/
def Obligations.BoundsKept : Prop :=
  ∀ s t : State, step s = .next t → boundsLaw s → boundsLaw t

/-- The laws of single units: the ranges of the plan (R21, R27), the curves (R76, R77), the leg that is
driven (R2), the WATERMARK flag (R121), the running timer (R52), and the port: SDO is driven only in the
data bytes of a read frame, and a part held in full reset has no frame but an ignored one (R175, R180). -/
def Obligations.UnitLawsKept : Prop :=
  ∀ s t : State, step s = .next t →
    (planLaw s → planLaw t) ∧ (curvesLaw s → curvesLaw t) ∧ (legLaw s → legLaw t) ∧
    (watermarkLaw s → watermarkLaw t) ∧ (planLaw s → timerLaw s → timerLaw t) ∧
    (portLaw s → portLaw t)

/-- The conditions of Table 3-2 hold in every state that a step leads to (R42, R54 to R57). -/
def Obligations.ScanLawKept : Prop :=
  ∀ s t : State, step s = .next t → scanLaw s → scanLaw t

/-- R105: while the queue policy is HOLD no record is discarded, since every record offered finds a free
slot (R54, R55). -/
def Obligations.HoldLosesNothing : Prop :=
  ∀ s t : State, step s = .next t → scanLaw s → holdLaw s →
    holdLaw t ∧
    (s.plan.config.policy = .hold →
      (t.rq.gapPending = true → s.rq.gapPending = true) ∧
      (flagSet t .queueDrop = true → flagSet s .queueDrop = true))

/-- R35 and R39: the plan and the configuration do not change while the plan lock is held, and the four
conditions of Table 2-4 hold for every scan of a run. -/
def Obligations.ArmedPlanStands : Prop :=
  ∀ s t : State, step s = .next t → scanLaw s → armedLaw s →
    armedLaw t ∧
    (∀ c rest, s.pending = c :: rest → c ≠ .fullReset → roadLaw s → planLock s →
      t.plan.entries = s.plan.entries ∧ t.plan.config = s.plan.config)

/-- R127 and R128: what a row reads changes only by a program cycle on it, at its start or at its end. -/
def Obligations.RowsChangeByCyclesOnly : Prop :=
  ∀ (s t : State) (r : Fin 64), step s = .next t →
    s.nvs.engine.busy = false ∨ s.nvs.engine.row ≠ r →
    t.nvs.engine.busy = false ∨ t.nvs.engine.row ≠ r →
    ∀ b, b < 64 → rowByte t.nvs r b = rowByte s.nvs r b

/-- R105 and R116: records leave the queue only by POP, CLEAR QUEUE, RESET SCAN or a full reset, and an
event flag falls only by an event clear or a full reset. -/
def Obligations.OnlyNamedCommandsTakeAway : Prop :=
  ∀ (c : Instr) (s t : State), wellFormed c = true → exec c s = .next t →
    (c ≠ .pop → c ≠ .clearQueue → c ≠ .resetScan → c ≠ .fullReset →
      s.rq.records <+: t.rq.records) ∧
    ((∀ g v, c ≠ .eventClear g v) → c ≠ .fullReset →
      ∀ f, flagSet s f = true → flagSet t f = true)
end

