-- ==== Sys2Proof/Laws/State.lean ====
section
/-! SUPPORT. What the plain updates of State leave: one lemma per update, each part true by computation. -/

namespace Sys2Proof.Machine

@[simp] theorem raise_frame (f : EventFlag) (s : State) :
    (raise f s).power = s.power ∧
      (raise f s).port = s.port ∧
      (raise f s).pins = s.pins ∧
      (raise f s).cu = s.cu ∧
      (raise f s).plan = s.plan ∧
      (raise f s).sc = s.sc ∧
      (raise f s).tb = s.tb ∧
      (raise f s).rcu = s.rcu ∧
      (raise f s).lw = s.lw ∧
      (raise f s).rq = s.rq ∧
      (raise f s).ev.enable = s.ev.enable ∧
      (raise f s).ev.copy = s.ev.copy ∧
      (raise f s).nvs = s.nvs ∧
      (raise f s).au = s.au ∧
      (raise f s).pending = s.pending := by
  simp [raise]

@[simp] theorem raiseIf_frame (c : Bool) (f : EventFlag) (s : State) :
    (raiseIf c f s).power = s.power ∧
      (raiseIf c f s).port = s.port ∧
      (raiseIf c f s).pins = s.pins ∧
      (raiseIf c f s).cu = s.cu ∧
      (raiseIf c f s).plan = s.plan ∧
      (raiseIf c f s).sc = s.sc ∧
      (raiseIf c f s).tb = s.tb ∧
      (raiseIf c f s).rcu = s.rcu ∧
      (raiseIf c f s).lw = s.lw ∧
      (raiseIf c f s).rq = s.rq ∧
      (raiseIf c f s).ev.enable = s.ev.enable ∧
      (raiseIf c f s).ev.copy = s.ev.copy ∧
      (raiseIf c f s).nvs = s.nvs ∧
      (raiseIf c f s).au = s.au ∧
      (raiseIf c f s).pending = s.pending := by
  unfold raiseIf; split <;> simp

@[simp] theorem watermarkEval_frame (s : State) :
    (watermarkEval s).power = s.power ∧
      (watermarkEval s).port = s.port ∧
      (watermarkEval s).pins = s.pins ∧
      (watermarkEval s).cu = s.cu ∧
      (watermarkEval s).plan = s.plan ∧
      (watermarkEval s).sc = s.sc ∧
      (watermarkEval s).tb = s.tb ∧
      (watermarkEval s).rcu = s.rcu ∧
      (watermarkEval s).lw = s.lw ∧
      (watermarkEval s).rq = s.rq ∧
      (watermarkEval s).ev.enable = s.ev.enable ∧
      (watermarkEval s).ev.copy = s.ev.copy ∧
      (watermarkEval s).nvs = s.nvs ∧
      (watermarkEval s).au = s.au ∧
      (watermarkEval s).pending = s.pending := by
  simp [watermarkEval]

@[simp] theorem clearFlags_frame (w : BitVec 11) (s : State) :
    (clearFlags w s).power = s.power ∧
      (clearFlags w s).port = s.port ∧
      (clearFlags w s).pins = s.pins ∧
      (clearFlags w s).cu = s.cu ∧
      (clearFlags w s).plan = s.plan ∧
      (clearFlags w s).sc = s.sc ∧
      (clearFlags w s).tb = s.tb ∧
      (clearFlags w s).rcu = s.rcu ∧
      (clearFlags w s).lw = s.lw ∧
      (clearFlags w s).rq = s.rq ∧
      (clearFlags w s).ev.enable = s.ev.enable ∧
      (clearFlags w s).ev.copy = s.ev.copy ∧
      (clearFlags w s).nvs = s.nvs ∧
      (clearFlags w s).au = s.au ∧
      (clearFlags w s).pending = s.pending := by
  simp [clearFlags]

@[simp] theorem writeEnable_frame (g : GroupByte) (v : Byte) (s : State) :
    (writeEnable g v s).power = s.power ∧
      (writeEnable g v s).port = s.port ∧
      (writeEnable g v s).pins = s.pins ∧
      (writeEnable g v s).cu = s.cu ∧
      (writeEnable g v s).plan = s.plan ∧
      (writeEnable g v s).sc = s.sc ∧
      (writeEnable g v s).tb = s.tb ∧
      (writeEnable g v s).rcu = s.rcu ∧
      (writeEnable g v s).lw = s.lw ∧
      (writeEnable g v s).rq = s.rq ∧
      (writeEnable g v s).ev.copy = s.ev.copy ∧
      (writeEnable g v s).nvs = s.nvs ∧
      (writeEnable g v s).au = s.au ∧
      (writeEnable g v s).pending = s.pending := by
  simp [writeEnable]

@[simp] theorem measReply_frame (l : MeasLast) (o : CmdOutcome) (d : Byte) (s : State) :
    (measReply l o d s).power = s.power ∧
      (measReply l o d s).port = s.port ∧
      (measReply l o d s).pins = s.pins ∧
      (measReply l o d s).cu = s.cu ∧
      (measReply l o d s).plan = s.plan ∧
      (measReply l o d s).sc.argument = s.sc.argument ∧
      (measReply l o d s).tb = s.tb ∧
      (measReply l o d s).rcu = s.rcu ∧
      (measReply l o d s).lw = s.lw ∧
      (measReply l o d s).rq = s.rq ∧
      (measReply l o d s).ev.enable = s.ev.enable ∧
      (measReply l o d s).ev.copy = s.ev.copy ∧
      (measReply l o d s).nvs = s.nvs ∧
      (measReply l o d s).au = s.au ∧
      (measReply l o d s).pending = s.pending := by
  simp [measReply]

@[simp] theorem editReply_frame (l : EditLast) (o : CmdOutcome) (d : Byte) (s : State) :
    (editReply l o d s).power = s.power ∧
      (editReply l o d s).port = s.port ∧
      (editReply l o d s).pins = s.pins ∧
      (editReply l o d s).cu = s.cu ∧
      (editReply l o d s).plan = s.plan ∧
      (editReply l o d s).sc = s.sc ∧
      (editReply l o d s).tb = s.tb ∧
      (editReply l o d s).rcu.curves = s.rcu.curves ∧
      (editReply l o d s).rcu.select = s.rcu.select ∧
      (editReply l o d s).rcu.index = s.rcu.index ∧
      (editReply l o d s).rcu.entryStage = s.rcu.entryStage ∧
      (editReply l o d s).rcu.countStage = s.rcu.countStage ∧
      (editReply l o d s).rcu.entryCopy = s.rcu.entryCopy ∧
      (editReply l o d s).lw = s.lw ∧
      (editReply l o d s).rq = s.rq ∧
      (editReply l o d s).ev.enable = s.ev.enable ∧
      (editReply l o d s).ev.copy = s.ev.copy ∧
      (editReply l o d s).nvs = s.nvs ∧
      (editReply l o d s).au = s.au ∧
      (editReply l o d s).pending = s.pending := by
  simp [editReply]

@[simp] theorem storeStatus_frame (p : StorePhase) (l : StoreLast) (o : CmdOutcome) (d : Byte) (s : State) :
    (storeStatus p l o d s).power = s.power ∧
      (storeStatus p l o d s).port = s.port ∧
      (storeStatus p l o d s).pins = s.pins ∧
      (storeStatus p l o d s).cu = s.cu ∧
      (storeStatus p l o d s).plan = s.plan ∧
      (storeStatus p l o d s).sc = s.sc ∧
      (storeStatus p l o d s).tb = s.tb ∧
      (storeStatus p l o d s).rcu = s.rcu ∧
      (storeStatus p l o d s).lw = s.lw ∧
      (storeStatus p l o d s).rq = s.rq ∧
      (storeStatus p l o d s).ev = s.ev ∧
      (storeStatus p l o d s).nvs.cells = s.nvs.cells ∧
      (storeStatus p l o d s).nvs.complete = s.nvs.complete ∧
      (storeStatus p l o d s).nvs.engine = s.nvs.engine ∧
      (storeStatus p l o d s).nvs.page = s.nvs.page ∧
      (storeStatus p l o d s).nvs.readPointer = s.nvs.readPointer ∧
      (storeStatus p l o d s).nvs.readStage = s.nvs.readStage ∧
      (storeStatus p l o d s).nvs.readCopy = s.nvs.readCopy ∧
      (storeStatus p l o d s).nvs.argument = s.nvs.argument ∧
      (storeStatus p l o d s).nvs.road = s.nvs.road ∧
      (storeStatus p l o d s).nvs.bootStage = s.nvs.bootStage ∧
      (storeStatus p l o d s).au = s.au ∧
      (storeStatus p l o d s).pending = s.pending := by
  simp [storeStatus]

@[simp] theorem storeReply_frame (l : StoreLast) (o : CmdOutcome) (d : Byte) (s : State) :
    (storeReply l o d s).power = s.power ∧
      (storeReply l o d s).port = s.port ∧
      (storeReply l o d s).pins = s.pins ∧
      (storeReply l o d s).cu = s.cu ∧
      (storeReply l o d s).plan = s.plan ∧
      (storeReply l o d s).sc = s.sc ∧
      (storeReply l o d s).tb = s.tb ∧
      (storeReply l o d s).rcu = s.rcu ∧
      (storeReply l o d s).lw = s.lw ∧
      (storeReply l o d s).rq = s.rq ∧
      (storeReply l o d s).ev.enable = s.ev.enable ∧
      (storeReply l o d s).ev.copy = s.ev.copy ∧
      (storeReply l o d s).nvs.cells = s.nvs.cells ∧
      (storeReply l o d s).nvs.complete = s.nvs.complete ∧
      (storeReply l o d s).nvs.engine = s.nvs.engine ∧
      (storeReply l o d s).nvs.page = s.nvs.page ∧
      (storeReply l o d s).nvs.readPointer = s.nvs.readPointer ∧
      (storeReply l o d s).nvs.readStage = s.nvs.readStage ∧
      (storeReply l o d s).nvs.readCopy = s.nvs.readCopy ∧
      (storeReply l o d s).nvs.argument = s.nvs.argument ∧
      (storeReply l o d s).nvs.road = s.nvs.road ∧
      (storeReply l o d s).nvs.bootStage = s.nvs.bootStage ∧
      (storeReply l o d s).au = s.au ∧
      (storeReply l o d s).pending = s.pending := by
  simp [storeReply]

@[simp] theorem portWrote_frame (a : Addr) (s : State) :
    (portWrote a s).power = s.power ∧
      (portWrote a s).pins = s.pins ∧
      (portWrote a s).cu = s.cu ∧
      (portWrote a s).plan = s.plan ∧
      (portWrote a s).sc = s.sc ∧
      (portWrote a s).tb = s.tb ∧
      (portWrote a s).rcu = s.rcu ∧
      (portWrote a s).lw = s.lw ∧
      (portWrote a s).rq = s.rq ∧
      (portWrote a s).ev = s.ev ∧
      (portWrote a s).nvs = s.nvs ∧
      (portWrote a s).au = s.au ∧
      (portWrote a s).pending = s.pending := by
  simp [portWrote]

@[simp] theorem portFetched_frame (a : Addr) (v : Byte) (s : State) :
    (portFetched a v s).power = s.power ∧
      (portFetched a v s).pins = s.pins ∧
      (portFetched a v s).cu = s.cu ∧
      (portFetched a v s).plan = s.plan ∧
      (portFetched a v s).sc = s.sc ∧
      (portFetched a v s).tb = s.tb ∧
      (portFetched a v s).rcu = s.rcu ∧
      (portFetched a v s).lw = s.lw ∧
      (portFetched a v s).rq = s.rq ∧
      (portFetched a v s).ev = s.ev ∧
      (portFetched a v s).nvs = s.nvs ∧
      (portFetched a v s).au = s.au ∧
      (portFetched a v s).pending = s.pending := by
  simp [portFetched]

/-! ## What the port does with a byte -/

/-- A byte that the frame brings to address `a` is taken by the block there, and the frame moves on. -/
theorem busWrite_brought {a : Addr} {s : State} (act : State → State)
    (h : bringsWrite a s = true) : busWrite a act s = portWrote a (act s) := by
  simp [busWrite, h]

/-- A byte that no frame brings to address `a` changes nothing. -/
theorem busWrite_ignored {a : Addr} {s : State} (act : State → State)
    (h : bringsWrite a s = false) : busWrite a act s = s := by
  simp [busWrite, h]

/-- A fetch that the frame brings to address `a` is made, and the frame moves on. -/
theorem busFetch_brought {a : Addr} {s : State} (read : State → State × Byte)
    (h : bringsRead a s = true) : busFetch a read s = portFetched a (read s).2 (read s).1 := by
  simp [busFetch, fetchAt, h]

/-- A fetch that no frame brings to address `a` is not made. -/
theorem busFetch_ignored {a : Addr} {s : State} (read : State → State × Byte)
    (h : bringsRead a s = false) : busFetch a read s = s := by
  simp [busFetch, h]

/-- A write byte reaches address `a` exactly in a write frame that has come to `a`, outside full
reset. -/
theorem bringsWrite_iff (a : Addr) (s : State) :
    bringsWrite a s = true ↔ s.power ≠ .held ∧ ∃ m, s.port.frame = .data m .write a := by
  unfold bringsWrite isHeld
  rcases hf : s.port.frame with _ | _ | ⟨m, d, x⟩ | _ <;> simp
  cases d <;> simp

/-- A fetch reaches address `a` exactly in a read frame whose next stop is `a`, outside full reset. -/
theorem bringsRead_iff (a : Addr) (s : State) :
    bringsRead a s = true ↔
      s.power ≠ .held ∧ ∃ m x, s.port.frame = .data m .read x ∧ nextReadStop x = a := by
  unfold bringsRead isHeld
  rcases hf : s.port.frame with _ | _ | ⟨m, d, x⟩ | _ <;> simp
  cases d <;> simp

end Sys2Proof.Machine
end

