-- ==== Sys2Proof/Laws/Archive.lean ====
section
/-! SUPPORT. What the operations of the arbiter and of the Archive Unit leave. -/

namespace Sys2Proof.Machine

@[simp] theorem arbitrateStore_frame (n : Store) :
    (arbitrateStore n).page = n.page ∧ (arbitrateStore n).readPointer = n.readPointer ∧
      (arbitrateStore n).readStage = n.readStage ∧ (arbitrateStore n).readCopy = n.readCopy ∧
      (arbitrateStore n).argument = n.argument ∧ (arbitrateStore n).status = n.status ∧
      (arbitrateStore n).road = n.road ∧ (arbitrateStore n).bootStage = n.bootStage := by
  unfold arbitrateStore
  (repeat' split) <;> simp [startHost, startArchive, startCycle, blankRow]

@[simp] theorem arbitrate_frame (s : State) :
    (arbitrate s).power = s.power ∧
      (arbitrate s).port = s.port ∧
      (arbitrate s).pins = s.pins ∧
      (arbitrate s).cu = s.cu ∧
      (arbitrate s).plan = s.plan ∧
      (arbitrate s).sc = s.sc ∧
      (arbitrate s).tb = s.tb ∧
      (arbitrate s).rcu = s.rcu ∧
      (arbitrate s).lw = s.lw ∧
      (arbitrate s).rq = s.rq ∧
      (arbitrate s).ev = s.ev ∧
      (arbitrate s).nvs.page = s.nvs.page ∧
      (arbitrate s).nvs.readPointer = s.nvs.readPointer ∧
      (arbitrate s).nvs.readStage = s.nvs.readStage ∧
      (arbitrate s).nvs.readCopy = s.nvs.readCopy ∧
      (arbitrate s).nvs.argument = s.nvs.argument ∧
      (arbitrate s).nvs.status = s.nvs.status ∧
      (arbitrate s).nvs.road = s.nvs.road ∧
      (arbitrate s).nvs.bootStage = s.nvs.bootStage ∧
      (arbitrate s).au = s.au ∧
      (arbitrate s).pending = s.pending := by
  simp [arbitrate]

@[simp] theorem hostClaims_frame (r : Fin 64) (i : ClaimImage) (s : State) :
    (hostClaims r i s).power = s.power ∧
      (hostClaims r i s).port = s.port ∧
      (hostClaims r i s).pins = s.pins ∧
      (hostClaims r i s).cu = s.cu ∧
      (hostClaims r i s).plan = s.plan ∧
      (hostClaims r i s).sc = s.sc ∧
      (hostClaims r i s).tb = s.tb ∧
      (hostClaims r i s).rcu = s.rcu ∧
      (hostClaims r i s).lw = s.lw ∧
      (hostClaims r i s).rq = s.rq ∧
      (hostClaims r i s).ev = s.ev ∧
      (hostClaims r i s).nvs.cells = s.nvs.cells ∧
      (hostClaims r i s).nvs.complete = s.nvs.complete ∧
      (hostClaims r i s).nvs.engine = s.nvs.engine ∧
      (hostClaims r i s).nvs.page = s.nvs.page ∧
      (hostClaims r i s).nvs.readPointer = s.nvs.readPointer ∧
      (hostClaims r i s).nvs.readStage = s.nvs.readStage ∧
      (hostClaims r i s).nvs.readCopy = s.nvs.readCopy ∧
      (hostClaims r i s).nvs.argument = s.nvs.argument ∧
      (hostClaims r i s).nvs.status = s.nvs.status ∧
      (hostClaims r i s).nvs.road = s.nvs.road ∧
      (hostClaims r i s).nvs.bootStage = s.nvs.bootStage ∧
      (hostClaims r i s).au = s.au ∧
      (hostClaims r i s).pending = s.pending := by
  simp [hostClaims]

@[simp] theorem archiveClaims_frame (r : Fin 64) (i : RowImage) (s : State) :
    (archiveClaims r i s).power = s.power ∧
      (archiveClaims r i s).port = s.port ∧
      (archiveClaims r i s).pins = s.pins ∧
      (archiveClaims r i s).cu = s.cu ∧
      (archiveClaims r i s).plan = s.plan ∧
      (archiveClaims r i s).sc = s.sc ∧
      (archiveClaims r i s).tb = s.tb ∧
      (archiveClaims r i s).rcu = s.rcu ∧
      (archiveClaims r i s).lw = s.lw ∧
      (archiveClaims r i s).rq = s.rq ∧
      (archiveClaims r i s).ev = s.ev ∧
      (archiveClaims r i s).nvs.cells = s.nvs.cells ∧
      (archiveClaims r i s).nvs.complete = s.nvs.complete ∧
      (archiveClaims r i s).nvs.engine = s.nvs.engine ∧
      (archiveClaims r i s).nvs.page = s.nvs.page ∧
      (archiveClaims r i s).nvs.readPointer = s.nvs.readPointer ∧
      (archiveClaims r i s).nvs.readStage = s.nvs.readStage ∧
      (archiveClaims r i s).nvs.readCopy = s.nvs.readCopy ∧
      (archiveClaims r i s).nvs.argument = s.nvs.argument ∧
      (archiveClaims r i s).nvs.status = s.nvs.status ∧
      (archiveClaims r i s).nvs.road = s.nvs.road ∧
      (archiveClaims r i s).nvs.bootStage = s.nvs.bootStage ∧
      (archiveClaims r i s).au = s.au ∧
      (archiveClaims r i s).pending = s.pending := by
  simp [archiveClaims]

@[simp] theorem claimCommitted_frame (s : State) :
    (claimCommitted s).power = s.power ∧
      (claimCommitted s).port = s.port ∧
      (claimCommitted s).pins = s.pins ∧
      (claimCommitted s).cu = s.cu ∧
      (claimCommitted s).plan = s.plan ∧
      (claimCommitted s).sc = s.sc ∧
      (claimCommitted s).tb = s.tb ∧
      (claimCommitted s).rcu = s.rcu ∧
      (claimCommitted s).lw = s.lw ∧
      (claimCommitted s).rq = s.rq ∧
      (claimCommitted s).ev = s.ev ∧
      (claimCommitted s).nvs.cells = s.nvs.cells ∧
      (claimCommitted s).nvs.complete = s.nvs.complete ∧
      (claimCommitted s).nvs.engine = s.nvs.engine ∧
      (claimCommitted s).nvs.page = s.nvs.page ∧
      (claimCommitted s).nvs.readPointer = s.nvs.readPointer ∧
      (claimCommitted s).nvs.readStage = s.nvs.readStage ∧
      (claimCommitted s).nvs.readCopy = s.nvs.readCopy ∧
      (claimCommitted s).nvs.argument = s.nvs.argument ∧
      (claimCommitted s).nvs.status = s.nvs.status ∧
      (claimCommitted s).nvs.road = s.nvs.road ∧
      (claimCommitted s).nvs.bootStage = s.nvs.bootStage ∧
      (claimCommitted s).au = s.au ∧
      (claimCommitted s).pending = s.pending := by
  unfold claimCommitted; (repeat' split) <;> simp

@[simp] theorem commitFilling_frame (s : State) :
    (commitFilling s).power = s.power ∧
      (commitFilling s).port = s.port ∧
      (commitFilling s).pins = s.pins ∧
      (commitFilling s).cu = s.cu ∧
      (commitFilling s).plan = s.plan ∧
      (commitFilling s).sc = s.sc ∧
      (commitFilling s).tb = s.tb ∧
      (commitFilling s).rcu = s.rcu ∧
      (commitFilling s).lw = s.lw ∧
      (commitFilling s).rq = s.rq ∧
      (commitFilling s).ev = s.ev ∧
      (commitFilling s).nvs.cells = s.nvs.cells ∧
      (commitFilling s).nvs.complete = s.nvs.complete ∧
      (commitFilling s).nvs.engine = s.nvs.engine ∧
      (commitFilling s).nvs.page = s.nvs.page ∧
      (commitFilling s).nvs.readPointer = s.nvs.readPointer ∧
      (commitFilling s).nvs.readStage = s.nvs.readStage ∧
      (commitFilling s).nvs.readCopy = s.nvs.readCopy ∧
      (commitFilling s).nvs.argument = s.nvs.argument ∧
      (commitFilling s).nvs.status = s.nvs.status ∧
      (commitFilling s).nvs.road = s.nvs.road ∧
      (commitFilling s).nvs.bootStage = s.nvs.bootStage ∧
      (commitFilling s).au.mode = s.au.mode ∧
      (commitFilling s).au.flushAtEnd = s.au.flushAtEnd ∧
      (commitFilling s).au.erase = s.au.erase ∧
      (commitFilling s).au.copy = s.au.copy ∧
      (commitFilling s).pending = s.pending := by
  simp [commitFilling]

@[simp] theorem tryCommit_frame (s : State) :
    (tryCommit s).power = s.power ∧
      (tryCommit s).port = s.port ∧
      (tryCommit s).pins = s.pins ∧
      (tryCommit s).cu = s.cu ∧
      (tryCommit s).plan = s.plan ∧
      (tryCommit s).sc = s.sc ∧
      (tryCommit s).tb = s.tb ∧
      (tryCommit s).rcu = s.rcu ∧
      (tryCommit s).lw = s.lw ∧
      (tryCommit s).rq = s.rq ∧
      (tryCommit s).ev = s.ev ∧
      (tryCommit s).nvs.cells = s.nvs.cells ∧
      (tryCommit s).nvs.complete = s.nvs.complete ∧
      (tryCommit s).nvs.engine = s.nvs.engine ∧
      (tryCommit s).nvs.page = s.nvs.page ∧
      (tryCommit s).nvs.readPointer = s.nvs.readPointer ∧
      (tryCommit s).nvs.readStage = s.nvs.readStage ∧
      (tryCommit s).nvs.readCopy = s.nvs.readCopy ∧
      (tryCommit s).nvs.argument = s.nvs.argument ∧
      (tryCommit s).nvs.status = s.nvs.status ∧
      (tryCommit s).nvs.road = s.nvs.road ∧
      (tryCommit s).nvs.bootStage = s.nvs.bootStage ∧
      (tryCommit s).au.mode = s.au.mode ∧
      (tryCommit s).au.flushAtEnd = s.au.flushAtEnd ∧
      (tryCommit s).au.erase = s.au.erase ∧
      (tryCommit s).au.copy = s.au.copy ∧
      (tryCommit s).pending = s.pending := by
  unfold tryCommit; (repeat' split) <;> simp

@[simp] theorem offerArchive_frame (b : ResultBody) (s : State) :
    (offerArchive b s).power = s.power ∧
      (offerArchive b s).port = s.port ∧
      (offerArchive b s).pins = s.pins ∧
      (offerArchive b s).cu = s.cu ∧
      (offerArchive b s).plan = s.plan ∧
      (offerArchive b s).sc = s.sc ∧
      (offerArchive b s).tb = s.tb ∧
      (offerArchive b s).rcu = s.rcu ∧
      (offerArchive b s).lw = s.lw ∧
      (offerArchive b s).rq = s.rq ∧
      (offerArchive b s).ev.enable = s.ev.enable ∧
      (offerArchive b s).ev.copy = s.ev.copy ∧
      (offerArchive b s).nvs.cells = s.nvs.cells ∧
      (offerArchive b s).nvs.complete = s.nvs.complete ∧
      (offerArchive b s).nvs.engine = s.nvs.engine ∧
      (offerArchive b s).nvs.page = s.nvs.page ∧
      (offerArchive b s).nvs.readPointer = s.nvs.readPointer ∧
      (offerArchive b s).nvs.readStage = s.nvs.readStage ∧
      (offerArchive b s).nvs.readCopy = s.nvs.readCopy ∧
      (offerArchive b s).nvs.argument = s.nvs.argument ∧
      (offerArchive b s).nvs.status = s.nvs.status ∧
      (offerArchive b s).nvs.road = s.nvs.road ∧
      (offerArchive b s).nvs.bootStage = s.nvs.bootStage ∧
      (offerArchive b s).au.mode = s.au.mode ∧
      (offerArchive b s).au.flushAtEnd = s.au.flushAtEnd ∧
      (offerArchive b s).au.erase = s.au.erase ∧
      (offerArchive b s).au.copy = s.au.copy ∧
      (offerArchive b s).pending = s.pending := by
  unfold offerArchive; (repeat' split) <;> simp

@[simp] theorem flushFilling_frame (s : State) :
    (flushFilling s).power = s.power ∧
      (flushFilling s).port = s.port ∧
      (flushFilling s).pins = s.pins ∧
      (flushFilling s).cu = s.cu ∧
      (flushFilling s).plan = s.plan ∧
      (flushFilling s).sc = s.sc ∧
      (flushFilling s).tb = s.tb ∧
      (flushFilling s).rcu = s.rcu ∧
      (flushFilling s).lw = s.lw ∧
      (flushFilling s).rq = s.rq ∧
      (flushFilling s).ev = s.ev ∧
      (flushFilling s).nvs.cells = s.nvs.cells ∧
      (flushFilling s).nvs.complete = s.nvs.complete ∧
      (flushFilling s).nvs.engine = s.nvs.engine ∧
      (flushFilling s).nvs.page = s.nvs.page ∧
      (flushFilling s).nvs.readPointer = s.nvs.readPointer ∧
      (flushFilling s).nvs.readStage = s.nvs.readStage ∧
      (flushFilling s).nvs.readCopy = s.nvs.readCopy ∧
      (flushFilling s).nvs.argument = s.nvs.argument ∧
      (flushFilling s).nvs.status = s.nvs.status ∧
      (flushFilling s).nvs.road = s.nvs.road ∧
      (flushFilling s).nvs.bootStage = s.nvs.bootStage ∧
      (flushFilling s).au.mode = s.au.mode ∧
      (flushFilling s).au.flushAtEnd = s.au.flushAtEnd ∧
      (flushFilling s).au.erase = s.au.erase ∧
      (flushFilling s).au.copy = s.au.copy ∧
      (flushFilling s).pending = s.pending := by
  unfold flushFilling; (repeat' split) <;> simp

@[simp] theorem signalScanEnd_frame (s : State) :
    (signalScanEnd s).power = s.power ∧
      (signalScanEnd s).port = s.port ∧
      (signalScanEnd s).pins = s.pins ∧
      (signalScanEnd s).cu = s.cu ∧
      (signalScanEnd s).plan = s.plan ∧
      (signalScanEnd s).sc = s.sc ∧
      (signalScanEnd s).tb = s.tb ∧
      (signalScanEnd s).rcu = s.rcu ∧
      (signalScanEnd s).lw = s.lw ∧
      (signalScanEnd s).rq = s.rq ∧
      (signalScanEnd s).ev = s.ev ∧
      (signalScanEnd s).nvs.cells = s.nvs.cells ∧
      (signalScanEnd s).nvs.complete = s.nvs.complete ∧
      (signalScanEnd s).nvs.engine = s.nvs.engine ∧
      (signalScanEnd s).nvs.page = s.nvs.page ∧
      (signalScanEnd s).nvs.readPointer = s.nvs.readPointer ∧
      (signalScanEnd s).nvs.readStage = s.nvs.readStage ∧
      (signalScanEnd s).nvs.readCopy = s.nvs.readCopy ∧
      (signalScanEnd s).nvs.argument = s.nvs.argument ∧
      (signalScanEnd s).nvs.status = s.nvs.status ∧
      (signalScanEnd s).nvs.road = s.nvs.road ∧
      (signalScanEnd s).nvs.bootStage = s.nvs.bootStage ∧
      (signalScanEnd s).au.mode = s.au.mode ∧
      (signalScanEnd s).au.flushAtEnd = s.au.flushAtEnd ∧
      (signalScanEnd s).au.erase = s.au.erase ∧
      (signalScanEnd s).au.copy = s.au.copy ∧
      (signalScanEnd s).pending = s.pending := by
  unfold signalScanEnd; (repeat' split) <;> simp

@[simp] theorem setFull_frame (s : State) :
    (setFull s).power = s.power ∧
      (setFull s).port = s.port ∧
      (setFull s).pins = s.pins ∧
      (setFull s).cu = s.cu ∧
      (setFull s).plan = s.plan ∧
      (setFull s).sc = s.sc ∧
      (setFull s).tb = s.tb ∧
      (setFull s).rcu = s.rcu ∧
      (setFull s).lw = s.lw ∧
      (setFull s).rq = s.rq ∧
      (setFull s).ev.enable = s.ev.enable ∧
      (setFull s).ev.copy = s.ev.copy ∧
      (setFull s).nvs = s.nvs ∧
      (setFull s).au.mode = s.au.mode ∧
      (setFull s).au.flushAtEnd = s.au.flushAtEnd ∧
      (setFull s).au.erase = s.au.erase ∧
      (setFull s).au.copy = s.au.copy ∧
      (setFull s).pending = s.pending := by
  simp [setFull]

@[simp] theorem advanceRing_frame (s : State) :
    (advanceRing s).power = s.power ∧
      (advanceRing s).port = s.port ∧
      (advanceRing s).pins = s.pins ∧
      (advanceRing s).cu = s.cu ∧
      (advanceRing s).plan = s.plan ∧
      (advanceRing s).sc = s.sc ∧
      (advanceRing s).tb = s.tb ∧
      (advanceRing s).rcu = s.rcu ∧
      (advanceRing s).lw = s.lw ∧
      (advanceRing s).rq = s.rq ∧
      (advanceRing s).ev.enable = s.ev.enable ∧
      (advanceRing s).ev.copy = s.ev.copy ∧
      (advanceRing s).nvs = s.nvs ∧
      (advanceRing s).au.mode = s.au.mode ∧
      (advanceRing s).au.flushAtEnd = s.au.flushAtEnd ∧
      (advanceRing s).au.erase = s.au.erase ∧
      (advanceRing s).au.copy = s.au.copy ∧
      (advanceRing s).pending = s.pending := by
  unfold advanceRing; dsimp only; split <;> simp

@[simp] theorem archiveRowOk_frame (s : State) :
    (archiveRowOk s).power = s.power ∧
      (archiveRowOk s).port = s.port ∧
      (archiveRowOk s).pins = s.pins ∧
      (archiveRowOk s).cu = s.cu ∧
      (archiveRowOk s).plan = s.plan ∧
      (archiveRowOk s).sc = s.sc ∧
      (archiveRowOk s).tb = s.tb ∧
      (archiveRowOk s).rcu = s.rcu ∧
      (archiveRowOk s).lw = s.lw ∧
      (archiveRowOk s).rq = s.rq ∧
      (archiveRowOk s).ev.enable = s.ev.enable ∧
      (archiveRowOk s).ev.copy = s.ev.copy ∧
      (archiveRowOk s).nvs.cells = s.nvs.cells ∧
      (archiveRowOk s).nvs.complete = s.nvs.complete ∧
      (archiveRowOk s).nvs.engine = s.nvs.engine ∧
      (archiveRowOk s).nvs.page = s.nvs.page ∧
      (archiveRowOk s).nvs.readPointer = s.nvs.readPointer ∧
      (archiveRowOk s).nvs.readStage = s.nvs.readStage ∧
      (archiveRowOk s).nvs.readCopy = s.nvs.readCopy ∧
      (archiveRowOk s).nvs.argument = s.nvs.argument ∧
      (archiveRowOk s).nvs.status = s.nvs.status ∧
      (archiveRowOk s).nvs.road = s.nvs.road ∧
      (archiveRowOk s).nvs.bootStage = s.nvs.bootStage ∧
      (archiveRowOk s).au.mode = s.au.mode ∧
      (archiveRowOk s).au.flushAtEnd = s.au.flushAtEnd ∧
      (archiveRowOk s).au.erase = s.au.erase ∧
      (archiveRowOk s).au.copy = s.au.copy ∧
      (archiveRowOk s).pending = s.pending := by
  simp [archiveRowOk]

@[simp] theorem discardCommitted_frame (s : State) :
    (discardCommitted s).power = s.power ∧
      (discardCommitted s).port = s.port ∧
      (discardCommitted s).pins = s.pins ∧
      (discardCommitted s).cu = s.cu ∧
      (discardCommitted s).plan = s.plan ∧
      (discardCommitted s).sc = s.sc ∧
      (discardCommitted s).tb = s.tb ∧
      (discardCommitted s).rcu = s.rcu ∧
      (discardCommitted s).lw = s.lw ∧
      (discardCommitted s).rq = s.rq ∧
      (discardCommitted s).ev.enable = s.ev.enable ∧
      (discardCommitted s).ev.copy = s.ev.copy ∧
      (discardCommitted s).nvs.cells = s.nvs.cells ∧
      (discardCommitted s).nvs.complete = s.nvs.complete ∧
      (discardCommitted s).nvs.engine = s.nvs.engine ∧
      (discardCommitted s).nvs.page = s.nvs.page ∧
      (discardCommitted s).nvs.readPointer = s.nvs.readPointer ∧
      (discardCommitted s).nvs.readStage = s.nvs.readStage ∧
      (discardCommitted s).nvs.readCopy = s.nvs.readCopy ∧
      (discardCommitted s).nvs.argument = s.nvs.argument ∧
      (discardCommitted s).nvs.status = s.nvs.status ∧
      (discardCommitted s).nvs.road = s.nvs.road ∧
      (discardCommitted s).nvs.bootStage = s.nvs.bootStage ∧
      (discardCommitted s).au.mode = s.au.mode ∧
      (discardCommitted s).au.flushAtEnd = s.au.flushAtEnd ∧
      (discardCommitted s).au.erase = s.au.erase ∧
      (discardCommitted s).au.copy = s.au.copy ∧
      (discardCommitted s).pending = s.pending := by
  simp [discardCommitted]

@[simp] theorem archiveRowFailed_frame (s : State) :
    (archiveRowFailed s).power = s.power ∧
      (archiveRowFailed s).port = s.port ∧
      (archiveRowFailed s).pins = s.pins ∧
      (archiveRowFailed s).cu = s.cu ∧
      (archiveRowFailed s).plan = s.plan ∧
      (archiveRowFailed s).sc = s.sc ∧
      (archiveRowFailed s).tb = s.tb ∧
      (archiveRowFailed s).rcu = s.rcu ∧
      (archiveRowFailed s).lw = s.lw ∧
      (archiveRowFailed s).rq = s.rq ∧
      (archiveRowFailed s).ev.enable = s.ev.enable ∧
      (archiveRowFailed s).ev.copy = s.ev.copy ∧
      (archiveRowFailed s).nvs.cells = s.nvs.cells ∧
      (archiveRowFailed s).nvs.complete = s.nvs.complete ∧
      (archiveRowFailed s).nvs.engine = s.nvs.engine ∧
      (archiveRowFailed s).nvs.page = s.nvs.page ∧
      (archiveRowFailed s).nvs.readPointer = s.nvs.readPointer ∧
      (archiveRowFailed s).nvs.readStage = s.nvs.readStage ∧
      (archiveRowFailed s).nvs.readCopy = s.nvs.readCopy ∧
      (archiveRowFailed s).nvs.argument = s.nvs.argument ∧
      (archiveRowFailed s).nvs.status = s.nvs.status ∧
      (archiveRowFailed s).nvs.road = s.nvs.road ∧
      (archiveRowFailed s).nvs.bootStage = s.nvs.bootStage ∧
      (archiveRowFailed s).au.mode = s.au.mode ∧
      (archiveRowFailed s).au.flushAtEnd = s.au.flushAtEnd ∧
      (archiveRowFailed s).au.erase = s.au.erase ∧
      (archiveRowFailed s).au.copy = s.au.copy ∧
      (archiveRowFailed s).pending = s.pending := by
  unfold archiveRowFailed; dsimp only; (repeat' split) <;> simp

end Sys2Proof.Machine
end

