-- ==== Sys2Proof/Laws/Measuring.lean ====
section
/-! SUPPORT. What the operations of the Result Queue, the Limit Watch and the Ratio and Curve Unit leave. -/

namespace Sys2Proof.Machine

@[simp] theorem acceptRecord_frame (r : Record) (s : State) :
    (acceptRecord r s).power = s.power ∧
      (acceptRecord r s).port = s.port ∧
      (acceptRecord r s).pins = s.pins ∧
      (acceptRecord r s).cu = s.cu ∧
      (acceptRecord r s).plan = s.plan ∧
      (acceptRecord r s).sc = s.sc ∧
      (acceptRecord r s).tb = s.tb ∧
      (acceptRecord r s).rcu = s.rcu ∧
      (acceptRecord r s).lw = s.lw ∧
      (acceptRecord r s).rq.watermark = s.rq.watermark ∧
      (acceptRecord r s).rq.headCopy = s.rq.headCopy ∧
      (acceptRecord r s).ev.enable = s.ev.enable ∧
      (acceptRecord r s).ev.copy = s.ev.copy ∧
      (acceptRecord r s).nvs = s.nvs ∧
      (acceptRecord r s).au = s.au ∧
      (acceptRecord r s).pending = s.pending := by
  simp [acceptRecord]

@[simp] theorem discardRecord_frame (s : State) :
    (discardRecord s).power = s.power ∧
      (discardRecord s).port = s.port ∧
      (discardRecord s).pins = s.pins ∧
      (discardRecord s).cu = s.cu ∧
      (discardRecord s).plan = s.plan ∧
      (discardRecord s).sc = s.sc ∧
      (discardRecord s).tb = s.tb ∧
      (discardRecord s).rcu = s.rcu ∧
      (discardRecord s).lw = s.lw ∧
      (discardRecord s).rq.watermark = s.rq.watermark ∧
      (discardRecord s).rq.headCopy = s.rq.headCopy ∧
      (discardRecord s).ev.enable = s.ev.enable ∧
      (discardRecord s).ev.copy = s.ev.copy ∧
      (discardRecord s).nvs = s.nvs ∧
      (discardRecord s).au = s.au ∧
      (discardRecord s).pending = s.pending := by
  simp [discardRecord]

@[simp] theorem offerRecord_frame (r : Record) (s : State) :
    (offerRecord r s).power = s.power ∧
      (offerRecord r s).port = s.port ∧
      (offerRecord r s).pins = s.pins ∧
      (offerRecord r s).cu = s.cu ∧
      (offerRecord r s).plan = s.plan ∧
      (offerRecord r s).sc = s.sc ∧
      (offerRecord r s).tb = s.tb ∧
      (offerRecord r s).rcu = s.rcu ∧
      (offerRecord r s).lw = s.lw ∧
      (offerRecord r s).rq.watermark = s.rq.watermark ∧
      (offerRecord r s).rq.headCopy = s.rq.headCopy ∧
      (offerRecord r s).ev.enable = s.ev.enable ∧
      (offerRecord r s).ev.copy = s.ev.copy ∧
      (offerRecord r s).nvs = s.nvs ∧
      (offerRecord r s).au = s.au ∧
      (offerRecord r s).pending = s.pending := by
  unfold offerRecord; (repeat' split) <;> simp

@[simp] theorem removeHead_frame (s : State) :
    (removeHead s).power = s.power ∧
      (removeHead s).port = s.port ∧
      (removeHead s).pins = s.pins ∧
      (removeHead s).cu = s.cu ∧
      (removeHead s).plan = s.plan ∧
      (removeHead s).sc = s.sc ∧
      (removeHead s).tb = s.tb ∧
      (removeHead s).rcu = s.rcu ∧
      (removeHead s).lw = s.lw ∧
      (removeHead s).rq.watermark = s.rq.watermark ∧
      (removeHead s).rq.headCopy = s.rq.headCopy ∧
      (removeHead s).ev.enable = s.ev.enable ∧
      (removeHead s).ev.copy = s.ev.copy ∧
      (removeHead s).nvs = s.nvs ∧
      (removeHead s).au = s.au ∧
      (removeHead s).pending = s.pending := by
  simp [removeHead]

@[simp] theorem emptyQueue_frame (s : State) :
    (emptyQueue s).power = s.power ∧
      (emptyQueue s).port = s.port ∧
      (emptyQueue s).pins = s.pins ∧
      (emptyQueue s).cu = s.cu ∧
      (emptyQueue s).plan = s.plan ∧
      (emptyQueue s).sc = s.sc ∧
      (emptyQueue s).tb = s.tb ∧
      (emptyQueue s).rcu = s.rcu ∧
      (emptyQueue s).lw = s.lw ∧
      (emptyQueue s).rq.watermark = s.rq.watermark ∧
      (emptyQueue s).rq.headCopy = s.rq.headCopy ∧
      (emptyQueue s).ev.enable = s.ev.enable ∧
      (emptyQueue s).ev.copy = s.ev.copy ∧
      (emptyQueue s).nvs = s.nvs ∧
      (emptyQueue s).au = s.au ∧
      (emptyQueue s).pending = s.pending := by
  simp [emptyQueue]

@[simp] theorem writeWatermark_frame (v : Byte) (s : State) :
    (writeWatermark v s).power = s.power ∧
      (writeWatermark v s).port = s.port ∧
      (writeWatermark v s).pins = s.pins ∧
      (writeWatermark v s).cu = s.cu ∧
      (writeWatermark v s).plan = s.plan ∧
      (writeWatermark v s).sc = s.sc ∧
      (writeWatermark v s).tb = s.tb ∧
      (writeWatermark v s).rcu = s.rcu ∧
      (writeWatermark v s).lw = s.lw ∧
      (writeWatermark v s).rq.headCopy = s.rq.headCopy ∧
      (writeWatermark v s).ev.enable = s.ev.enable ∧
      (writeWatermark v s).ev.copy = s.ev.copy ∧
      (writeWatermark v s).nvs = s.nvs ∧
      (writeWatermark v s).au = s.au ∧
      (writeWatermark v s).pending = s.pending := by
  unfold writeWatermark; (repeat' split) <;> simp

@[simp] theorem writeSlot_frame (j : Fin 16) (r : ConvResult) (s : State) :
    (writeSlot j r s).power = s.power ∧
      (writeSlot j r s).port = s.port ∧
      (writeSlot j r s).pins = s.pins ∧
      (writeSlot j r s).cu = s.cu ∧
      (writeSlot j r s).plan = s.plan ∧
      (writeSlot j r s).sc = s.sc ∧
      (writeSlot j r s).tb = s.tb ∧
      (writeSlot j r s).rcu.curves = s.rcu.curves ∧
      (writeSlot j r s).rcu.select = s.rcu.select ∧
      (writeSlot j r s).rcu.index = s.rcu.index ∧
      (writeSlot j r s).rcu.entryStage = s.rcu.entryStage ∧
      (writeSlot j r s).rcu.countStage = s.rcu.countStage ∧
      (writeSlot j r s).rcu.entryCopy = s.rcu.entryCopy ∧
      (writeSlot j r s).rcu.editStatus = s.rcu.editStatus ∧
      (writeSlot j r s).lw = s.lw ∧
      (writeSlot j r s).rq = s.rq ∧
      (writeSlot j r s).ev = s.ev ∧
      (writeSlot j r s).nvs = s.nvs ∧
      (writeSlot j r s).au = s.au ∧
      (writeSlot j r s).pending = s.pending := by
  simp [writeSlot]

@[simp] theorem clearSlots_frame (s : State) :
    (clearSlots s).power = s.power ∧
      (clearSlots s).port = s.port ∧
      (clearSlots s).pins = s.pins ∧
      (clearSlots s).cu = s.cu ∧
      (clearSlots s).plan = s.plan ∧
      (clearSlots s).sc = s.sc ∧
      (clearSlots s).tb = s.tb ∧
      (clearSlots s).rcu.curves = s.rcu.curves ∧
      (clearSlots s).rcu.select = s.rcu.select ∧
      (clearSlots s).rcu.index = s.rcu.index ∧
      (clearSlots s).rcu.entryStage = s.rcu.entryStage ∧
      (clearSlots s).rcu.countStage = s.rcu.countStage ∧
      (clearSlots s).rcu.entryCopy = s.rcu.entryCopy ∧
      (clearSlots s).rcu.editStatus = s.rcu.editStatus ∧
      (clearSlots s).lw = s.lw ∧
      (clearSlots s).rq = s.rq ∧
      (clearSlots s).ev = s.ev ∧
      (clearSlots s).nvs = s.nvs ∧
      (clearSlots s).au = s.au ∧
      (clearSlots s).pending = s.pending := by
  simp [clearSlots]

@[simp] theorem setCurve_frame (c : Fin 4) (v : Curve) (s : State) :
    (setCurve c v s).power = s.power ∧
      (setCurve c v s).port = s.port ∧
      (setCurve c v s).pins = s.pins ∧
      (setCurve c v s).cu = s.cu ∧
      (setCurve c v s).plan = s.plan ∧
      (setCurve c v s).sc = s.sc ∧
      (setCurve c v s).tb = s.tb ∧
      (setCurve c v s).rcu.select = s.rcu.select ∧
      (setCurve c v s).rcu.index = s.rcu.index ∧
      (setCurve c v s).rcu.entryStage = s.rcu.entryStage ∧
      (setCurve c v s).rcu.countStage = s.rcu.countStage ∧
      (setCurve c v s).rcu.entryCopy = s.rcu.entryCopy ∧
      (setCurve c v s).rcu.editStatus = s.rcu.editStatus ∧
      (setCurve c v s).lw = s.lw ∧
      (setCurve c v s).rq = s.rq ∧
      (setCurve c v s).ev = s.ev ∧
      (setCurve c v s).nvs = s.nvs ∧
      (setCurve c v s).au = s.au ∧
      (setCurve c v s).pending = s.pending := by
  simp [setCurve]

@[simp] theorem watchLimit_frame (j : Fin 16) (v : Option Int) (s : State) :
    ((watchLimit j v s).1).power = s.power ∧
      ((watchLimit j v s).1).port = s.port ∧
      ((watchLimit j v s).1).pins = s.pins ∧
      ((watchLimit j v s).1).cu = s.cu ∧
      ((watchLimit j v s).1).plan = s.plan ∧
      ((watchLimit j v s).1).sc = s.sc ∧
      ((watchLimit j v s).1).tb = s.tb ∧
      ((watchLimit j v s).1).rcu = s.rcu ∧
      ((watchLimit j v s).1).lw.copy = s.lw.copy ∧
      ((watchLimit j v s).1).rq = s.rq ∧
      ((watchLimit j v s).1).ev.enable = s.ev.enable ∧
      ((watchLimit j v s).1).ev.copy = s.ev.copy ∧
      ((watchLimit j v s).1).nvs = s.nvs ∧
      ((watchLimit j v s).1).au = s.au ∧
      ((watchLimit j v s).1).pending = s.pending := by
  unfold watchLimit; dsimp only; split <;> simp

@[simp] theorem resetLimits_frame (s : State) :
    (resetLimits s).power = s.power ∧
      (resetLimits s).port = s.port ∧
      (resetLimits s).pins = s.pins ∧
      (resetLimits s).cu = s.cu ∧
      (resetLimits s).plan = s.plan ∧
      (resetLimits s).sc = s.sc ∧
      (resetLimits s).tb = s.tb ∧
      (resetLimits s).rcu = s.rcu ∧
      (resetLimits s).lw.copy = s.lw.copy ∧
      (resetLimits s).rq = s.rq ∧
      (resetLimits s).ev = s.ev ∧
      (resetLimits s).nvs = s.nvs ∧
      (resetLimits s).au = s.au ∧
      (resetLimits s).pending = s.pending := by
  simp [resetLimits]

end Sys2Proof.Machine
end

