-- ==== Sys2Proof/Laws/Scan.lean ====
section
/-! SUPPORT. What the operations of the Scan Controller and the Conversion Unit leave. -/

namespace Sys2Proof.Machine

@[simp] theorem abandon_frame (s : State) :
    (abandon s).power = s.power ∧
      (abandon s).port = s.port ∧
      (abandon s).pins = s.pins ∧
      (abandon s).plan = s.plan ∧
      (abandon s).sc = s.sc ∧
      (abandon s).tb = s.tb ∧
      (abandon s).rcu = s.rcu ∧
      (abandon s).lw = s.lw ∧
      (abandon s).rq = s.rq ∧
      (abandon s).ev = s.ev ∧
      (abandon s).nvs = s.nvs ∧
      (abandon s).au = s.au ∧
      (abandon s).pending = s.pending := by
  simp [abandon]

@[simp] theorem startStep_frame (j : Fin 16) (s : State) :
    (startStep j s).power = s.power ∧
      (startStep j s).port = s.port ∧
      (startStep j s).pins = s.pins ∧
      (startStep j s).plan = s.plan ∧
      (startStep j s).sc.argument = s.sc.argument ∧
      (startStep j s).sc.status = s.sc.status ∧
      (startStep j s).tb = s.tb ∧
      (startStep j s).rcu = s.rcu ∧
      (startStep j s).lw = s.lw ∧
      (startStep j s).rq = s.rq ∧
      (startStep j s).ev = s.ev ∧
      (startStep j s).nvs = s.nvs ∧
      (startStep j s).au = s.au ∧
      (startStep j s).pending = s.pending := by
  simp [startStep]

@[simp] theorem beginScan_frame (s : State) :
    (beginScan s).power = s.power ∧
      (beginScan s).port = s.port ∧
      (beginScan s).pins = s.pins ∧
      (beginScan s).plan = s.plan ∧
      (beginScan s).sc.argument = s.sc.argument ∧
      (beginScan s).sc.status = s.sc.status ∧
      (beginScan s).tb = s.tb ∧
      (beginScan s).rcu.curves = s.rcu.curves ∧
      (beginScan s).rcu.select = s.rcu.select ∧
      (beginScan s).rcu.index = s.rcu.index ∧
      (beginScan s).rcu.entryStage = s.rcu.entryStage ∧
      (beginScan s).rcu.countStage = s.rcu.countStage ∧
      (beginScan s).rcu.entryCopy = s.rcu.entryCopy ∧
      (beginScan s).rcu.editStatus = s.rcu.editStatus ∧
      (beginScan s).lw = s.lw ∧
      (beginScan s).rq = s.rq ∧
      (beginScan s).ev = s.ev ∧
      (beginScan s).nvs = s.nvs ∧
      (beginScan s).au = s.au ∧
      (beginScan s).pending = s.pending := by
  unfold beginScan; dsimp only; split <;> simp

@[simp] theorem startScan_frame (b : Bool) (s : State) :
    (startScan b s).power = s.power ∧
      (startScan b s).port = s.port ∧
      (startScan b s).pins = s.pins ∧
      (startScan b s).plan = s.plan ∧
      (startScan b s).sc.argument = s.sc.argument ∧
      (startScan b s).sc.status = s.sc.status ∧
      (startScan b s).tb = s.tb ∧
      (startScan b s).rcu.curves = s.rcu.curves ∧
      (startScan b s).rcu.select = s.rcu.select ∧
      (startScan b s).rcu.index = s.rcu.index ∧
      (startScan b s).rcu.entryStage = s.rcu.entryStage ∧
      (startScan b s).rcu.countStage = s.rcu.countStage ∧
      (startScan b s).rcu.entryCopy = s.rcu.entryCopy ∧
      (startScan b s).rcu.editStatus = s.rcu.editStatus ∧
      (startScan b s).lw = s.lw ∧
      (startScan b s).rq = s.rq ∧
      (startScan b s).ev = s.ev ∧
      (startScan b s).nvs = s.nvs ∧
      (startScan b s).au = s.au ∧
      (startScan b s).pending = s.pending := by
  unfold startScan; dsimp only; split <;> simp

@[simp] theorem takeTrigger_frame (s : State) :
    (takeTrigger s).power = s.power ∧
      (takeTrigger s).port = s.port ∧
      (takeTrigger s).pins = s.pins ∧
      (takeTrigger s).plan = s.plan ∧
      (takeTrigger s).sc.argument = s.sc.argument ∧
      (takeTrigger s).sc.status = s.sc.status ∧
      (takeTrigger s).tb = s.tb ∧
      (takeTrigger s).rcu.curves = s.rcu.curves ∧
      (takeTrigger s).rcu.select = s.rcu.select ∧
      (takeTrigger s).rcu.index = s.rcu.index ∧
      (takeTrigger s).rcu.entryStage = s.rcu.entryStage ∧
      (takeTrigger s).rcu.countStage = s.rcu.countStage ∧
      (takeTrigger s).rcu.entryCopy = s.rcu.entryCopy ∧
      (takeTrigger s).rcu.editStatus = s.rcu.editStatus ∧
      (takeTrigger s).lw = s.lw ∧
      (takeTrigger s).rq = s.rq ∧
      (takeTrigger s).ev.enable = s.ev.enable ∧
      (takeTrigger s).ev.copy = s.ev.copy ∧
      (takeTrigger s).nvs = s.nvs ∧
      (takeTrigger s).au = s.au ∧
      (takeTrigger s).pending = s.pending := by
  unfold takeTrigger; (repeat' split) <;> simp

@[simp] theorem reexamine_frame (s : State) :
    (reexamine s).power = s.power ∧
      (reexamine s).port = s.port ∧
      (reexamine s).pins = s.pins ∧
      (reexamine s).plan = s.plan ∧
      (reexamine s).sc.argument = s.sc.argument ∧
      (reexamine s).sc.status = s.sc.status ∧
      (reexamine s).tb = s.tb ∧
      (reexamine s).rcu.curves = s.rcu.curves ∧
      (reexamine s).rcu.select = s.rcu.select ∧
      (reexamine s).rcu.index = s.rcu.index ∧
      (reexamine s).rcu.entryStage = s.rcu.entryStage ∧
      (reexamine s).rcu.countStage = s.rcu.countStage ∧
      (reexamine s).rcu.entryCopy = s.rcu.entryCopy ∧
      (reexamine s).rcu.editStatus = s.rcu.editStatus ∧
      (reexamine s).lw = s.lw ∧
      (reexamine s).rq = s.rq ∧
      (reexamine s).ev = s.ev ∧
      (reexamine s).nvs = s.nvs ∧
      (reexamine s).au = s.au ∧
      (reexamine s).pending = s.pending := by
  unfold reexamine; (repeat' split) <;> simp

@[simp] theorem enterArmed_frame (s : State) :
    (enterArmed s).power = s.power ∧
      (enterArmed s).port = s.port ∧
      (enterArmed s).pins = s.pins ∧
      (enterArmed s).cu = s.cu ∧
      (enterArmed s).plan = s.plan ∧
      (enterArmed s).sc.argument = s.sc.argument ∧
      (enterArmed s).sc.status = s.sc.status ∧
      (enterArmed s).tb = s.tb ∧
      (enterArmed s).rcu = s.rcu ∧
      (enterArmed s).lw.copy = s.lw.copy ∧
      (enterArmed s).rq = s.rq ∧
      (enterArmed s).ev = s.ev ∧
      (enterArmed s).nvs = s.nvs ∧
      (enterArmed s).au = s.au ∧
      (enterArmed s).pending = s.pending := by
  simp [enterArmed]

@[simp] theorem immediateTrigger_frame (s : State) :
    (immediateTrigger s).power = s.power ∧
      (immediateTrigger s).port = s.port ∧
      (immediateTrigger s).pins = s.pins ∧
      (immediateTrigger s).plan = s.plan ∧
      (immediateTrigger s).sc.argument = s.sc.argument ∧
      (immediateTrigger s).sc.status = s.sc.status ∧
      (immediateTrigger s).tb = s.tb ∧
      (immediateTrigger s).rcu.curves = s.rcu.curves ∧
      (immediateTrigger s).rcu.select = s.rcu.select ∧
      (immediateTrigger s).rcu.index = s.rcu.index ∧
      (immediateTrigger s).rcu.entryStage = s.rcu.entryStage ∧
      (immediateTrigger s).rcu.countStage = s.rcu.countStage ∧
      (immediateTrigger s).rcu.entryCopy = s.rcu.entryCopy ∧
      (immediateTrigger s).rcu.editStatus = s.rcu.editStatus ∧
      (immediateTrigger s).lw = s.lw ∧
      (immediateTrigger s).rq = s.rq ∧
      (immediateTrigger s).ev.enable = s.ev.enable ∧
      (immediateTrigger s).ev.copy = s.ev.copy ∧
      (immediateTrigger s).nvs = s.nvs ∧
      (immediateTrigger s).au = s.au ∧
      (immediateTrigger s).pending = s.pending := by
  unfold immediateTrigger; (repeat' split) <;> simp

@[simp] theorem closeScan_frame (e : EndStatus) (s : State) :
    (closeScan e s).power = s.power ∧
      (closeScan e s).port = s.port ∧
      (closeScan e s).pins = s.pins ∧
      (closeScan e s).cu = s.cu ∧
      (closeScan e s).plan = s.plan ∧
      (closeScan e s).sc = s.sc ∧
      (closeScan e s).tb = s.tb ∧
      (closeScan e s).rcu = s.rcu ∧
      (closeScan e s).lw = s.lw ∧
      (closeScan e s).rq.watermark = s.rq.watermark ∧
      (closeScan e s).rq.headCopy = s.rq.headCopy ∧
      (closeScan e s).ev.enable = s.ev.enable ∧
      (closeScan e s).ev.copy = s.ev.copy ∧
      (closeScan e s).nvs.page = s.nvs.page ∧
      (closeScan e s).nvs.readPointer = s.nvs.readPointer ∧
      (closeScan e s).nvs.readStage = s.nvs.readStage ∧
      (closeScan e s).nvs.readCopy = s.nvs.readCopy ∧
      (closeScan e s).nvs.argument = s.nvs.argument ∧
      (closeScan e s).nvs.status = s.nvs.status ∧
      (closeScan e s).nvs.road = s.nvs.road ∧
      (closeScan e s).nvs.bootStage = s.nvs.bootStage ∧
      (closeScan e s).au.mode = s.au.mode ∧
      (closeScan e s).au.flushAtEnd = s.au.flushAtEnd ∧
      (closeScan e s).au.erase = s.au.erase ∧
      (closeScan e s).au.copy = s.au.copy ∧
      (closeScan e s).pending = s.pending := by
  simp [closeScan]

@[simp] theorem enterStopped_frame (s : State) :
    (enterStopped s).power = s.power ∧
      (enterStopped s).port = s.port ∧
      (enterStopped s).pins = s.pins ∧
      (enterStopped s).cu = s.cu ∧
      (enterStopped s).plan = s.plan ∧
      (enterStopped s).sc.argument = s.sc.argument ∧
      (enterStopped s).sc.status = s.sc.status ∧
      (enterStopped s).tb = s.tb ∧
      (enterStopped s).rcu = s.rcu ∧
      (enterStopped s).lw = s.lw ∧
      (enterStopped s).rq = s.rq ∧
      (enterStopped s).ev = s.ev ∧
      (enterStopped s).nvs = s.nvs ∧
      (enterStopped s).au = s.au ∧
      (enterStopped s).pending = s.pending := by
  simp [enterStopped]

@[simp] theorem afterScan_frame (s : State) :
    (afterScan s).power = s.power ∧
      (afterScan s).port = s.port ∧
      (afterScan s).pins = s.pins ∧
      (afterScan s).plan = s.plan ∧
      (afterScan s).sc.argument = s.sc.argument ∧
      (afterScan s).sc.status = s.sc.status ∧
      (afterScan s).tb = s.tb ∧
      (afterScan s).rcu.curves = s.rcu.curves ∧
      (afterScan s).rcu.select = s.rcu.select ∧
      (afterScan s).rcu.index = s.rcu.index ∧
      (afterScan s).rcu.entryStage = s.rcu.entryStage ∧
      (afterScan s).rcu.countStage = s.rcu.countStage ∧
      (afterScan s).rcu.entryCopy = s.rcu.entryCopy ∧
      (afterScan s).rcu.editStatus = s.rcu.editStatus ∧
      (afterScan s).lw = s.lw ∧
      (afterScan s).rq = s.rq ∧
      (afterScan s).ev = s.ev ∧
      (afterScan s).nvs = s.nvs ∧
      (afterScan s).au = s.au ∧
      (afterScan s).pending = s.pending := by
  unfold afterScan; (repeat' split) <;> simp

@[simp] theorem endScan_frame (s : State) :
    (endScan s).power = s.power ∧
      (endScan s).port = s.port ∧
      (endScan s).pins = s.pins ∧
      (endScan s).plan = s.plan ∧
      (endScan s).sc.argument = s.sc.argument ∧
      (endScan s).sc.status = s.sc.status ∧
      (endScan s).tb = s.tb ∧
      (endScan s).rcu.curves = s.rcu.curves ∧
      (endScan s).rcu.select = s.rcu.select ∧
      (endScan s).rcu.index = s.rcu.index ∧
      (endScan s).rcu.entryStage = s.rcu.entryStage ∧
      (endScan s).rcu.countStage = s.rcu.countStage ∧
      (endScan s).rcu.entryCopy = s.rcu.entryCopy ∧
      (endScan s).rcu.editStatus = s.rcu.editStatus ∧
      (endScan s).lw = s.lw ∧
      (endScan s).rq.watermark = s.rq.watermark ∧
      (endScan s).rq.headCopy = s.rq.headCopy ∧
      (endScan s).ev.enable = s.ev.enable ∧
      (endScan s).ev.copy = s.ev.copy ∧
      (endScan s).nvs.page = s.nvs.page ∧
      (endScan s).nvs.readPointer = s.nvs.readPointer ∧
      (endScan s).nvs.readStage = s.nvs.readStage ∧
      (endScan s).nvs.readCopy = s.nvs.readCopy ∧
      (endScan s).nvs.argument = s.nvs.argument ∧
      (endScan s).nvs.status = s.nvs.status ∧
      (endScan s).nvs.road = s.nvs.road ∧
      (endScan s).nvs.bootStage = s.nvs.bootStage ∧
      (endScan s).au.mode = s.au.mode ∧
      (endScan s).au.flushAtEnd = s.au.flushAtEnd ∧
      (endScan s).au.erase = s.au.erase ∧
      (endScan s).au.copy = s.au.copy ∧
      (endScan s).pending = s.pending := by
  simp [endScan]

@[simp] theorem tally_frame (r : ConvResult) (s : State) :
    (tally r s).power = s.power ∧
      (tally r s).port = s.port ∧
      (tally r s).pins = s.pins ∧
      (tally r s).cu = s.cu ∧
      (tally r s).plan = s.plan ∧
      (tally r s).sc.argument = s.sc.argument ∧
      (tally r s).sc.status = s.sc.status ∧
      (tally r s).tb = s.tb ∧
      (tally r s).rcu = s.rcu ∧
      (tally r s).lw = s.lw ∧
      (tally r s).rq = s.rq ∧
      (tally r s).ev = s.ev ∧
      (tally r s).nvs = s.nvs ∧
      (tally r s).au = s.au ∧
      (tally r s).pending = s.pending := by
  unfold tally; (repeat' split) <;> simp

@[simp] theorem passResult_frame (j : Fin 16) (r : ConvResult) (s : State) :
    (passResult j r s).power = s.power ∧
      (passResult j r s).port = s.port ∧
      (passResult j r s).pins = s.pins ∧
      (passResult j r s).cu = s.cu ∧
      (passResult j r s).plan = s.plan ∧
      (passResult j r s).sc.argument = s.sc.argument ∧
      (passResult j r s).sc.status = s.sc.status ∧
      (passResult j r s).tb = s.tb ∧
      (passResult j r s).rcu.curves = s.rcu.curves ∧
      (passResult j r s).rcu.select = s.rcu.select ∧
      (passResult j r s).rcu.index = s.rcu.index ∧
      (passResult j r s).rcu.entryStage = s.rcu.entryStage ∧
      (passResult j r s).rcu.countStage = s.rcu.countStage ∧
      (passResult j r s).rcu.entryCopy = s.rcu.entryCopy ∧
      (passResult j r s).rcu.editStatus = s.rcu.editStatus ∧
      (passResult j r s).lw.copy = s.lw.copy ∧
      (passResult j r s).rq.watermark = s.rq.watermark ∧
      (passResult j r s).rq.headCopy = s.rq.headCopy ∧
      (passResult j r s).ev.enable = s.ev.enable ∧
      (passResult j r s).ev.copy = s.ev.copy ∧
      (passResult j r s).nvs.page = s.nvs.page ∧
      (passResult j r s).nvs.readPointer = s.nvs.readPointer ∧
      (passResult j r s).nvs.readStage = s.nvs.readStage ∧
      (passResult j r s).nvs.readCopy = s.nvs.readCopy ∧
      (passResult j r s).nvs.argument = s.nvs.argument ∧
      (passResult j r s).nvs.status = s.nvs.status ∧
      (passResult j r s).nvs.road = s.nvs.road ∧
      (passResult j r s).nvs.bootStage = s.nvs.bootStage ∧
      (passResult j r s).au.mode = s.au.mode ∧
      (passResult j r s).au.flushAtEnd = s.au.flushAtEnd ∧
      (passResult j r s).au.erase = s.au.erase ∧
      (passResult j r s).au.copy = s.au.copy ∧
      (passResult j r s).pending = s.pending := by
  unfold passResult; dsimp only; (repeat' split) <;> simp

@[simp] theorem walkOn_frame (j : Fin 16) (s : State) :
    (walkOn j s).power = s.power ∧
      (walkOn j s).port = s.port ∧
      (walkOn j s).pins = s.pins ∧
      (walkOn j s).plan = s.plan ∧
      (walkOn j s).sc.argument = s.sc.argument ∧
      (walkOn j s).sc.status = s.sc.status ∧
      (walkOn j s).tb = s.tb ∧
      (walkOn j s).rcu.curves = s.rcu.curves ∧
      (walkOn j s).rcu.select = s.rcu.select ∧
      (walkOn j s).rcu.index = s.rcu.index ∧
      (walkOn j s).rcu.entryStage = s.rcu.entryStage ∧
      (walkOn j s).rcu.countStage = s.rcu.countStage ∧
      (walkOn j s).rcu.entryCopy = s.rcu.entryCopy ∧
      (walkOn j s).rcu.editStatus = s.rcu.editStatus ∧
      (walkOn j s).lw = s.lw ∧
      (walkOn j s).rq.watermark = s.rq.watermark ∧
      (walkOn j s).rq.headCopy = s.rq.headCopy ∧
      (walkOn j s).ev.enable = s.ev.enable ∧
      (walkOn j s).ev.copy = s.ev.copy ∧
      (walkOn j s).nvs.page = s.nvs.page ∧
      (walkOn j s).nvs.readPointer = s.nvs.readPointer ∧
      (walkOn j s).nvs.readStage = s.nvs.readStage ∧
      (walkOn j s).nvs.readCopy = s.nvs.readCopy ∧
      (walkOn j s).nvs.argument = s.nvs.argument ∧
      (walkOn j s).nvs.status = s.nvs.status ∧
      (walkOn j s).nvs.road = s.nvs.road ∧
      (walkOn j s).nvs.bootStage = s.nvs.bootStage ∧
      (walkOn j s).au.mode = s.au.mode ∧
      (walkOn j s).au.flushAtEnd = s.au.flushAtEnd ∧
      (walkOn j s).au.erase = s.au.erase ∧
      (walkOn j s).au.copy = s.au.copy ∧
      (walkOn j s).pending = s.pending := by
  unfold walkOn; (repeat' split) <;> simp

@[simp] theorem takeResult_frame (r : ConvResult) (s : State) :
    (takeResult r s).power = s.power ∧
      (takeResult r s).port = s.port ∧
      (takeResult r s).pins = s.pins ∧
      (takeResult r s).plan = s.plan ∧
      (takeResult r s).sc.argument = s.sc.argument ∧
      (takeResult r s).sc.status = s.sc.status ∧
      (takeResult r s).tb = s.tb ∧
      (takeResult r s).rcu.curves = s.rcu.curves ∧
      (takeResult r s).rcu.select = s.rcu.select ∧
      (takeResult r s).rcu.index = s.rcu.index ∧
      (takeResult r s).rcu.entryStage = s.rcu.entryStage ∧
      (takeResult r s).rcu.countStage = s.rcu.countStage ∧
      (takeResult r s).rcu.entryCopy = s.rcu.entryCopy ∧
      (takeResult r s).rcu.editStatus = s.rcu.editStatus ∧
      (takeResult r s).lw.copy = s.lw.copy ∧
      (takeResult r s).rq.watermark = s.rq.watermark ∧
      (takeResult r s).rq.headCopy = s.rq.headCopy ∧
      (takeResult r s).ev.enable = s.ev.enable ∧
      (takeResult r s).ev.copy = s.ev.copy ∧
      (takeResult r s).nvs.page = s.nvs.page ∧
      (takeResult r s).nvs.readPointer = s.nvs.readPointer ∧
      (takeResult r s).nvs.readStage = s.nvs.readStage ∧
      (takeResult r s).nvs.readCopy = s.nvs.readCopy ∧
      (takeResult r s).nvs.argument = s.nvs.argument ∧
      (takeResult r s).nvs.status = s.nvs.status ∧
      (takeResult r s).nvs.road = s.nvs.road ∧
      (takeResult r s).nvs.bootStage = s.nvs.bootStage ∧
      (takeResult r s).au.mode = s.au.mode ∧
      (takeResult r s).au.flushAtEnd = s.au.flushAtEnd ∧
      (takeResult r s).au.erase = s.au.erase ∧
      (takeResult r s).au.copy = s.au.copy ∧
      (takeResult r s).pending = s.pending := by
  unfold takeResult; (repeat' split) <;> simp

@[simp] theorem endConversion_frame (o : ConvOutcome) (s : State) :
    (endConversion o s).power = s.power ∧
      (endConversion o s).port = s.port ∧
      (endConversion o s).pins = s.pins ∧
      (endConversion o s).plan = s.plan ∧
      (endConversion o s).sc.argument = s.sc.argument ∧
      (endConversion o s).sc.status = s.sc.status ∧
      (endConversion o s).tb = s.tb ∧
      (endConversion o s).rcu.curves = s.rcu.curves ∧
      (endConversion o s).rcu.select = s.rcu.select ∧
      (endConversion o s).rcu.index = s.rcu.index ∧
      (endConversion o s).rcu.entryStage = s.rcu.entryStage ∧
      (endConversion o s).rcu.countStage = s.rcu.countStage ∧
      (endConversion o s).rcu.entryCopy = s.rcu.entryCopy ∧
      (endConversion o s).rcu.editStatus = s.rcu.editStatus ∧
      (endConversion o s).lw.copy = s.lw.copy ∧
      (endConversion o s).rq.watermark = s.rq.watermark ∧
      (endConversion o s).rq.headCopy = s.rq.headCopy ∧
      (endConversion o s).ev.enable = s.ev.enable ∧
      (endConversion o s).ev.copy = s.ev.copy ∧
      (endConversion o s).nvs.page = s.nvs.page ∧
      (endConversion o s).nvs.readPointer = s.nvs.readPointer ∧
      (endConversion o s).nvs.readStage = s.nvs.readStage ∧
      (endConversion o s).nvs.readCopy = s.nvs.readCopy ∧
      (endConversion o s).nvs.argument = s.nvs.argument ∧
      (endConversion o s).nvs.status = s.nvs.status ∧
      (endConversion o s).nvs.road = s.nvs.road ∧
      (endConversion o s).nvs.bootStage = s.nvs.bootStage ∧
      (endConversion o s).au.mode = s.au.mode ∧
      (endConversion o s).au.flushAtEnd = s.au.flushAtEnd ∧
      (endConversion o s).au.erase = s.au.erase ∧
      (endConversion o s).au.copy = s.au.copy ∧
      (endConversion o s).pending = s.pending := by
  simp [endConversion]

end Sys2Proof.Machine
end

