-- ==== Sys2Proof/Laws/Clocks.lean ====
section
/-! SUPPORT. What ticks, clock periods and oscillation cycles leave, and the two cases of the interval
timer. -/

namespace Sys2Proof.Machine

/-- Ticks that do not bring the timer to 0. -/
theorem timerTicks_running {i n : Nat} {t : IntervalTimer} (h : n < t.units * 16 - t.phase) :
    timerTicks i n t =
      { units := t.units - (t.phase + n) / 16, phase := (t.phase + n) % 16,
        expired := t.expired } := by
  simp [timerTicks, Config.ticksPerUnit, h]

/-- Ticks that bring the timer to 0: it expires, and the rest of the ticks count in new periods. -/
theorem timerTicks_expired {i n : Nat} {t : IntervalTimer} (h : t.units * 16 - t.phase ≤ n) :
    timerTicks i n t =
      { units := i - (n - (t.units * 16 - t.phase)) % (i * 16) / 16
        phase := (n - (t.units * 16 - t.phase)) % (i * 16) % 16
        expired := t.expired + 1 + (n - (t.units * 16 - t.phase)) / (i * 16) } := by
  simp [timerTicks, Config.ticksPerUnit, Nat.not_lt.2 h]

@[simp] theorem ticks_frame (n : Nat) (s : State) :
    (ticks n s).power = s.power ∧
      (ticks n s).port = s.port ∧
      (ticks n s).pins = s.pins ∧
      (ticks n s).cu = s.cu ∧
      (ticks n s).plan = s.plan ∧
      (ticks n s).sc.state = s.sc.state ∧
      (ticks n s).sc.current = s.sc.current ∧
      (ticks n s).sc.pending = s.sc.pending ∧
      (ticks n s).rcu = s.rcu ∧
      (ticks n s).lw = s.lw ∧
      (ticks n s).rq = s.rq ∧
      (ticks n s).ev = s.ev ∧
      (ticks n s).nvs = s.nvs ∧
      (ticks n s).au = s.au ∧
      (ticks n s).pending = s.pending := by
  unfold ticks; split <;> simp

/-- Clock periods change the clock counter alone. -/
@[simp] theorem clockPeriods_frame (n : Nat) (u : ConversionUnit) :
    (clockPeriods n u).state = u.state ∧
      (clockPeriods n u).path = u.path ∧
      (clockPeriods n u).gateMode = u.gateMode ∧
      (clockPeriods n u).gateLength = u.gateLength ∧
      (clockPeriods n u).settleCount = u.settleCount ∧
      (clockPeriods n u).settleCounter = u.settleCounter ∧
      (clockPeriods n u).oscCounter = u.oscCounter ∧
      (clockPeriods n u).energized = u.energized := by
  unfold clockPeriods; split <;> simp

end Sys2Proof.Machine
end

