-- ==== Sys2Proof/Laws/Memory.lean ====
section
/-! SUPPORT. The store's cells: reads after writes, and the canonical form that every operation on
them keeps. -/

namespace Sys2Proof.Machine

/-- Below the first listed address nothing is listed. -/
theorem cellRead_below {m : Memory} {lo a : Nat} (h : cellsRise lo m = true) (ha : a < lo) :
    cellRead m a = unlistedByte := by
  induction m generalizing lo with
  | nil => rfl
  | cons c m ih =>
    obtain ⟨x, b⟩ := c
    simp only [cellsRise, Bool.and_eq_true, decide_eq_true_eq] at h
    rw [cellRead, if_neg (by omega)]
    exact ih h.2 (by omega)

/-- A lower bound may be lowered. -/
theorem cellsRise_mono {m : Memory} {lo lo' : Nat} (h : cellsRise lo m = true) (hl : lo' ≤ lo) :
    cellsRise lo' m = true := by
  cases m with
  | nil => rfl
  | cons c m =>
    obtain ⟨x, b⟩ := c
    simp only [cellsRise, Bool.and_eq_true, decide_eq_true_eq] at h ⊢
    exact ⟨⟨by omega, h.1.2⟩, h.2⟩

/-- A read after a write: the written byte at its address, every other address as before. -/
theorem cellRead_cellWrite {m : Memory} {lo : Nat} (h : cellsRise lo m = true) (k : Nat) (v : Byte)
    (a : Nat) : cellRead (cellWrite m k v) a = if a = k then v else cellRead m a := by
  induction m generalizing lo with
  | nil =>
    unfold cellWrite
    by_cases hv : v = unlistedByte <;> by_cases ha : a = k <;> simp [cellRead, *, eq_comm]
  | cons c m ih =>
    obtain ⟨x, b⟩ := c
    simp only [cellsRise, Bool.and_eq_true, decide_eq_true_eq] at h
    have below : ∀ {j}, j ≤ x → cellRead m j = unlistedByte := fun hj =>
      cellRead_below h.2 (by omega)
    unfold cellWrite
    by_cases h1 : k < x
    · by_cases hv : v = unlistedByte
      · by_cases ha : a = k
        · subst ha
          simp [h1, hv, cellRead, below (Nat.le_of_lt h1), Nat.ne_of_gt h1]
        · simp [h1, hv, ha]
      · by_cases ha : a = k <;> simp [h1, hv, ha, cellRead, eq_comm]
        exact fun h => absurd h.symm ha
    · by_cases h2 : k = x
      · subst h2
        by_cases hv : v = unlistedByte <;> by_cases ha : a = k
        · subst ha; simp [hv, below (Nat.le_refl a)]
        · simp [hv, ha, cellRead, Ne.symm ha]
        · simp [hv, ha, cellRead]
        · simp [hv, ha, cellRead, Ne.symm ha]
      · rw [if_neg h1, if_neg h2]
        by_cases ha : x = a
        · subst ha; simp [cellRead, Ne.symm h2]
        · simp [cellRead, ha, ih h.2]

/-- A write keeps the canonical form. -/
theorem cellsRise_cellWrite {m : Memory} {lo k : Nat} (h : cellsRise lo m = true) (hk : lo ≤ k)
    (v : Byte) : cellsRise lo (cellWrite m k v) = true := by
  induction m generalizing lo with
  | nil => by_cases hv : v = unlistedByte <;> simp [cellWrite, cellsRise, hv, hk]
  | cons c m ih =>
    obtain ⟨x, b⟩ := c
    have hx := h
    simp only [cellsRise, Bool.and_eq_true, decide_eq_true_eq] at h
    unfold cellWrite
    by_cases h1 : k < x
    · by_cases hv : v = unlistedByte
      · simpa [h1, hv] using hx
      · simp [h1, hv, cellsRise, hk, h.1.2, h.2]
    · by_cases h2 : k = x
      · subst h2
        by_cases hv : v = unlistedByte
        · simpa [hv] using cellsRise_mono h.2 (by omega)
        · simp [hv, cellsRise, hk, h.2]
      · rw [if_neg h1, if_neg h2]
        simp [cellsRise, h.1.1, h.1.2, ih h.2 (by omega : x + 1 ≤ k)]

/-- A written address, or one listed before. -/
theorem mem_cellWrite {m : Memory} {k : Nat} {v : Byte} {c : Host.Cell}
    (h : c ∈ cellWrite m k v) : c ∈ m ∨ c.1 = k := by
  induction m with
  | nil =>
    unfold cellWrite at h
    split at h
    · simp at h
    · simp at h; exact .inr (by simp [h])
  | cons d m ih =>
    obtain ⟨x, b⟩ := d
    unfold cellWrite at h
    repeat' split at h
    all_goals simp only [List.mem_cons] at h ⊢
    · exact .inl h
    · rcases h with rfl | h
      · exact .inr rfl
      · exact .inl h
    · exact .inl (.inr h)
    · rcases h with rfl | h
      · exact .inr rfl
      · exact .inl (.inr h)
    · rcases h with h | h
      · exact .inl (.inl h)
      · exact (ih h).imp .inr id

/-- A write at an address of the store keeps the canonical form. -/
theorem wf_cellWrite {m : Memory} (h : Memory.wf m = true) {k : Nat} (hk : k < 4096) (v : Byte) :
    Memory.wf (cellWrite m k v) = true := by
  simp only [Memory.wf, Bool.and_eq_true, List.all_eq_true, decide_eq_true_eq] at h ⊢
  refine ⟨cellsRise_cellWrite h.1 (Nat.zero_le k) v, fun c hc => ?_⟩
  rcases mem_cellWrite hc with hm | hm
  · exact h.2 c hm
  · omega

/-- Writes at successive addresses of the store keep the canonical form. -/
theorem wf_cellsWrite {m : Memory} (h : Memory.wf m = true) {k : Nat} {l : List Byte}
    (hk : k + l.length ≤ 4096) : Memory.wf (cellsWrite m k l) = true := by
  induction l generalizing m k with
  | nil => exact h
  | cons b l ih =>
    rw [cellsWrite]
    refine ih (wf_cellWrite h ?_ b) ?_ <;> simp at hk <;> omega

/-- A read after writes at successive addresses. -/
theorem cellRead_cellsWrite {m : Memory} (h : cellsRise 0 m = true) (k : Nat) (l : List Byte)
    (a : Nat) :
    cellRead (cellsWrite m k l) a =
      if k ≤ a ∧ a < k + l.length then l.getD (a - k) unlistedByte else cellRead m a := by
  induction l generalizing m k with
  | nil => rw [cellsWrite, if_neg (by simp)]
  | cons b l ih =>
    rw [cellsWrite, ih (cellsRise_cellWrite h (Nat.zero_le k) b), cellRead_cellWrite h]
    rcases Nat.lt_trichotomy a k with h1 | h1 | h1
    · rw [if_neg (by omega), if_neg (by omega), if_neg (by omega)]
    · subst h1; simp
    · have e : a - k = (a - (k + 1)) + 1 := by omega
      by_cases h2 : a < k + 1 + l.length
      · rw [if_pos (by omega), if_pos (by simp; omega), e, List.getD_cons_succ]
      · rw [if_neg (by omega), if_neg (by omega), if_neg (by simp; omega)]

/-- A row within the store. -/
theorem storeAddress_room (r : Fin 64) : storeAddress r 0 + 64 ≤ 4096 := by
  simp [storeAddress]; omega

/-- Sixty-four bytes written over a row keep the canonical form. -/
theorem wf_rowWrite {m : Memory} (h : Memory.wf m = true) (r : Fin 64) {l : List Byte}
    (hl : l.length = 64) : Memory.wf (cellsWrite m (storeAddress r 0) l) = true := by
  apply wf_cellsWrite h
  rw [hl]
  exact storeAddress_room r

/-- Blanking a row keeps the canonical form. -/
theorem wf_blankRow {n : Store} (h : Memory.wf n.cells = true) (r : Fin 64) :
    Memory.wf (blankRow r n).cells = true := by
  unfold blankRow
  dsimp only
  exact wf_rowWrite h r List.length_replicate

/-- The cells that completing a row leaves. -/
theorem completeRow_cells (r : Fin 64) (img : RowImage) (n : Store) :
    (completeRow r img n).cells = cellsWrite n.cells (storeAddress r 0) img.toList := rfl

/-- Completing a row keeps the canonical form. -/
theorem wf_completeRow {n : Store} (h : Memory.wf n.cells = true) (r : Fin 64) (img : RowImage) :
    Memory.wf (completeRow r img n).cells = true := by
  rw [completeRow_cells]
  apply wf_rowWrite h
  simp only [Vector.length_toList]

/-- The start of a cycle keeps the canonical form. -/
theorem wf_startCycle {n : Store} (h : Memory.wf n.cells = true) (w : Claimant) (c : Claim) :
    Memory.wf (startCycle w c n).cells = true := by
  unfold startCycle
  dsimp only
  exact wf_blankRow h c.row

/-- The arbiter's choice keeps the canonical form. -/
theorem wf_arbitrateStore {n : Store} (h : Memory.wf n.cells = true) :
    Memory.wf (arbitrateStore n).cells = true := by
  unfold arbitrateStore startHost startArchive
  split
  · exact h
  · split
    · exact h
    · exact wf_startCycle (n := { n with hostClaim := none }) h _ _
    · exact wf_startCycle (n := { n with archiveClaim := none }) h _ _
    · split
      · exact wf_startCycle (n := { n with archiveClaim := none }) h _ _
      · exact wf_startCycle (n := { n with hostClaim := none }) h _ _

/-- The end of a cycle keeps the canonical form. -/
theorem wf_endCycle {n : Store} (h : Memory.wf n.cells = true) (ok : Bool) :
    Memory.wf (endCycle ok n).cells = true := by
  unfold endCycle
  cases ok
  · exact h
  · simpa using wf_completeRow h n.engine.row n.engine.image

/-- The store after a reset is in canonical form. -/
theorem wf_reset : Memory.wf State.reset.nvs.cells = true := rfl

end Sys2Proof.Machine
end

