-- ==== Sys2Proof/Laws/PerInstr.lean ====
section
/-! SUPPORT. What well-formedness says of each command's operands. -/

namespace Sys2Proof.Laws.FieldsInRange

open Sys2Proof Sys2Proof.Machine

/-- A well-formed command has its operands in the range that the spec gives its row: an unknown code
names no command of Table 12-3, a plain write goes to an address without a row of its own, a start-up
has at most six steps, and an event of a clock happens at least once. -/
def Statement (i : Instr) : Prop :=
  wellFormed i = true →
    match i with
    | .unknownMeasurementCommand code => decodeMeas code = none
    | .unknownStoreCommand code => decodeStore code = none
    | .registerWrite a _ => a ∉ ownWriteAddresses
    | .startUp steps => steps ≤ 6
    | .timeBaseTick n => 1 ≤ n
    | .cclkPeriod n => 1 ≤ n
    | .oscillationCycle _ n => 1 ≤ n
    | .arm | .stop | .trigger | .resetScan | .pop | .clearQueue | .commitCurve | .loadRow
    | .programRow | .loadProfile | .saveProfile | .loadCurve | .saveCurve | .setBoot
    | .archiveFlush | .archiveErase | .stepWrite _ | .configWrite _ | .stepViewLatch
    | .timeLatch | .timeSet _ | .entryWrite _ | .countWrite _ | .curveEntryLatch
    | .limitStatusLatch | .watermarkWrite _ | .headWindowLatch | .eventFlagLatch
    | .eventClear _ _ | .eventEnableWrite _ _ | .loadPortWrite _ | .readPointerSet _
    | .readPointerLatch | .readPortRead | .archiveControlWrite _ | .archiveStatusLatch
    | .frameStart _ | .headerByte _ | .frameEnd | .trgEdge _ | .wpChange _ | .fullReset
    | .intervalExpiry | .settleComplete | .settleTimeout | .timeGateClose | .cyclesGateClose
    | .stallCeiling | .programAttemptEnd _ => True

theorem arm : Statement .arm := fun _ => trivial
theorem stop : Statement .stop := fun _ => trivial
theorem trigger : Statement .trigger := fun _ => trivial
theorem resetScan : Statement .resetScan := fun _ => trivial
theorem pop : Statement .pop := fun _ => trivial
theorem clearQueue : Statement .clearQueue := fun _ => trivial
theorem commitCurve : Statement .commitCurve := fun _ => trivial
theorem unknownMeasurementCommand (code : Byte) : Statement (.unknownMeasurementCommand code) := by
  have h : ∀ b : Byte, measurementCodes.contains b = false → decodeMeas b = none := by decide
  exact fun hw => h code (by simpa [wellFormed] using hw)
theorem loadRow : Statement .loadRow := fun _ => trivial
theorem programRow : Statement .programRow := fun _ => trivial
theorem loadProfile : Statement .loadProfile := fun _ => trivial
theorem saveProfile : Statement .saveProfile := fun _ => trivial
theorem loadCurve : Statement .loadCurve := fun _ => trivial
theorem saveCurve : Statement .saveCurve := fun _ => trivial
theorem setBoot : Statement .setBoot := fun _ => trivial
theorem archiveFlush : Statement .archiveFlush := fun _ => trivial
theorem archiveErase : Statement .archiveErase := fun _ => trivial
theorem unknownStoreCommand (code : Byte) : Statement (.unknownStoreCommand code) := by
  have h : ∀ b : Byte, storeCodes.contains b = false → decodeStore b = none := by decide
  exact fun hw => h code (by simpa [wellFormed] using hw)
theorem stepWrite (v : Byte) : Statement (.stepWrite v) := fun _ => trivial
theorem configWrite (v : Byte) : Statement (.configWrite v) := fun _ => trivial
theorem stepViewLatch : Statement .stepViewLatch := fun _ => trivial
theorem timeLatch : Statement .timeLatch := fun _ => trivial
theorem timeSet (v : Byte) : Statement (.timeSet v) := fun _ => trivial
theorem entryWrite (v : Byte) : Statement (.entryWrite v) := fun _ => trivial
theorem countWrite (v : Byte) : Statement (.countWrite v) := fun _ => trivial
theorem curveEntryLatch : Statement .curveEntryLatch := fun _ => trivial
theorem limitStatusLatch : Statement .limitStatusLatch := fun _ => trivial
theorem watermarkWrite (v : Byte) : Statement (.watermarkWrite v) := fun _ => trivial
theorem headWindowLatch : Statement .headWindowLatch := fun _ => trivial
theorem eventFlagLatch : Statement .eventFlagLatch := fun _ => trivial
theorem eventClear (which : GroupByte) (v : Byte) : Statement (.eventClear which v) := fun _ => trivial
theorem eventEnableWrite (which : GroupByte) (v : Byte) : Statement (.eventEnableWrite which v) := fun _ => trivial
theorem loadPortWrite (v : Byte) : Statement (.loadPortWrite v) := fun _ => trivial
theorem readPointerSet (v : Byte) : Statement (.readPointerSet v) := fun _ => trivial
theorem readPointerLatch : Statement .readPointerLatch := fun _ => trivial
theorem readPortRead : Statement .readPortRead := fun _ => trivial
theorem archiveControlWrite (v : Byte) : Statement (.archiveControlWrite v) := fun _ => trivial
theorem archiveStatusLatch : Statement .archiveStatusLatch := fun _ => trivial
theorem registerWrite (a : Addr) (v : Byte) : Statement (.registerWrite a v) := fun hw => by simpa [wellFormed] using hw
theorem frameStart (sckHigh : Bool) : Statement (.frameStart sckHigh) := fun _ => trivial
theorem headerByte (b : Byte) : Statement (.headerByte b) := fun _ => trivial
theorem frameEnd : Statement .frameEnd := fun _ => trivial
theorem trgEdge (e : Polarity) : Statement (.trgEdge e) := fun _ => trivial
theorem wpChange (asserted : Bool) : Statement (.wpChange asserted) := fun _ => trivial
theorem fullReset : Statement .fullReset := fun _ => trivial
theorem startUp (steps : Nat) : Statement (.startUp steps) := fun hw => by simpa [wellFormed] using hw
theorem timeBaseTick (n : Nat) : Statement (.timeBaseTick n) := fun hw => by simpa [wellFormed] using hw
theorem intervalExpiry : Statement .intervalExpiry := fun _ => trivial
theorem cclkPeriod (n : Nat) : Statement (.cclkPeriod n) := fun hw => by simpa [wellFormed] using hw
theorem oscillationCycle (src : OscSource) (n : Nat) : Statement (.oscillationCycle src n) := fun hw => by simpa [wellFormed] using hw
theorem settleComplete : Statement .settleComplete := fun _ => trivial
theorem settleTimeout : Statement .settleTimeout := fun _ => trivial
theorem timeGateClose : Statement .timeGateClose := fun _ => trivial
theorem cyclesGateClose : Statement .cyclesGateClose := fun _ => trivial
theorem stallCeiling : Statement .stallCeiling := fun _ => trivial
theorem programAttemptEnd (pass : Bool) : Statement (.programAttemptEnd pass) := fun _ => trivial

end Sys2Proof.Laws.FieldsInRange
end

