-- ==== Sys2Proof/Tests/Slice0.lean ====
section
/-! SUPPORT. Tests on single commands, with values from the spec's worked examples and tables, and for
each statement with hypotheses a state that meets them. -/

namespace Sys2Proof.Tests

open Sys2Proof Sys2Proof.Machine

/-! ## Ill-formed commands are refused by the check -/

theorem test_wellFormed_unknownMeasurement : wellFormed (.unknownMeasurementCommand 0x05) = false := by
  decide

theorem test_wellFormed_unknownStore : wellFormed (.unknownStoreCommand 0x29) = false := by decide

theorem test_wellFormed_registerWrite : wellFormed (.registerWrite 0x19 0) = false := by decide

theorem test_wellFormed_startUp : wellFormed (.startUp 7) = false := by decide

theorem test_wellFormed_tick : wellFormed (.timeBaseTick 0) = false := by decide

theorem test_wellFormed_cclk : wellFormed (.cclkPeriod 0) = false := by decide

theorem test_wellFormed_cycle : wellFormed (.oscillationCycle .fin 0) = false := by decide

/-! ## States -/

/-- The state that an outcome leaves. -/
def after : Host.Outcome State Fault Refusal → State
  | .next t => t
  | _ => State.reset

/-- The direction and the address of the byte that a command of the port is. -/
def byteOf : Instr → Option (Direction × Addr)
  | .stepWrite _ => some (.write, 0x19)
  | .configWrite _ => some (.write, 0x2C)
  | .timeSet _ => some (.write, 0x0B)
  | .entryWrite _ => some (.write, 0x33)
  | .countWrite _ => some (.write, 0x34)
  | .watermarkWrite _ => some (.write, 0x3F)
  | .eventClear which _ => some (.write, clearAddress which)
  | .eventEnableWrite which _ => some (.write, enableAddress which)
  | .loadPortWrite _ => some (.write, 0x63)
  | .readPointerSet _ => some (.write, 0x65)
  | .archiveControlWrite _ => some (.write, 0x6B)
  | .registerWrite a _ => some (.write, a)
  | .stepViewLatch => some (.read, 0x1B)
  | .timeLatch => some (.read, 0x08)
  | .curveEntryLatch => some (.read, 0x2F)
  | .limitStatusLatch => some (.read, 0x39)
  | .headWindowLatch => some (.read, 0x40)
  | .eventFlagLatch => some (.read, 0x55)
  | .readPointerLatch => some (.read, 0x64)
  | .readPortRead => some (.read, 0x66)
  | .archiveStatusLatch => some (.read, 0x6C)
  | .unknownMeasurementCommand _ => some (.write, 0x04)
  | .unknownStoreCommand _ => some (.write, 0x5D)
  | c =>
    if (measurementRows.map Prod.fst).contains c then some (.write, 0x04)
    else if (storeRows.map Prod.fst).contains c then some (.write, 0x5D)
    else none

/-- A state with a frame open (clock mode 3) that has come to a byte. -/
def framed (d : Direction) (a : Addr) (s : State) : State :=
  { s with port.frame := .data .mode3 d a }

/-- The state after one command, in a frame that brings its byte. -/
def did (c : Instr) (s : State) : State :=
  match byteOf c with
  | some (d, a) => after (exec c (framed d a s))
  | none => after (exec c s)

/-- In service with nothing loaded, no frame open. -/
def ready : State := { State.reset with power := .running }

/-- BOOTING, no step of start-up done. -/
def boot : State := { State.reset with power := .booting bootBegin }

/-- A reference step of Section 2.7. -/
def refStep (p : MeasPath) : StepEntry :=
  { resetEntry with enabled := true, path := p, gateLength := 400000, settle := 4, report := .none }

/-- A sensor step of Section 2.7. -/
def senStep (p : MeasPath) (k : Fin 16) (c : Fin 4) : StepEntry :=
  { resetEntry with
    enabled := true, path := p, gateMode := .cycles, gateLength := 2000, settle := 4
    pair := some k, curve := some c, limits := true, filter := 3
    low := BitVec.ofInt 16 (-500), high := 9500, archive := true }

/-- A curve from its breakpoints. -/
def curveOf (pts : List Breakpoint) (valid : Bool) : Curve :=
  { count := pts.length, points := Vector.ofFn fun i => pts.getD i ⟨0, 0⟩, valid := valid }

/-- Curve 0, Table 4-2. -/
def curve0 : Curve :=
  curveOf [⟨16384, 5600⟩, ⟨32768, 4200⟩, ⟨65536, 2500⟩, ⟨81920, 2000⟩, ⟨98304, 1600⟩,
    ⟨131072, 1000⟩] true

/-- Curve 1 of Section 4.6 with breakpoint 2 at the given x. -/
def curve1 (x2 : Word24) (valid : Bool) : Curve :=
  curveOf [⟨16384, 5600⟩, ⟨65536, 2500⟩, ⟨x2, 1600⟩, ⟨131072, 1000⟩] valid

/-- The heat meter of Section 2.7, with curve 1 valid or not. -/
def heat (valid1 : Bool) : State :=
  { ready with
    plan.entries :=
      #v[refStep (.leg .a .ref), senStep (.leg .a .sen) 0 0, refStep (.leg .b .ref),
         { senStep (.leg .b .sen) 2 1 with report := .limitOnly },
         { refStep (.leg .a .aux) with pair := some 0, report := .all },
         resetEntry, resetEntry, resetEntry, resetEntry, resetEntry, resetEntry, resetEntry,
         resetEntry, resetEntry, resetEntry, resetEntry]
    rcu.curves := #v[curve0, curve1 98304 valid1, resetCurve, resetCurve] }

/-- The heat meter in ARMED. -/
def armed : State := { heat true with sc.state := .armed }

/-- A MEASUREMENT record. -/
def someBody : ResultBody :=
  { scan := 11, step := 1, stamp := 100, outcome := .good, sat := false, clampLow := false
    clampHigh := false, pairInvalid := false, late := false, ratio := some 85688
    value := some 1909, limit := some .unknown }

/-- The same as a record of the queue. -/
def someRecord : Record := .measurement false someBody 523000 2000

/-- A scan with step 1 of the heat meter in GATE and `n` records queued. -/
def converting (n : Nat) : State :=
  { heat true with
    sc.state := .running .converting true
    sc.current := some 1
    sc.scanNumber := 2
    sc.late := true
    sc.converted := 1
    tb.count := 20600
    rcu.slots := (Vector.replicate 16 emptySlot).set 0 ⟨true, 400000, 2000⟩
    rq.records := List.replicate n someRecord
    ev.flags := if 16 ≤ n then 0x02 else 0
    cu :=
      { state := .gate, path := .leg .a .sen, gateMode := .cycles, gateLength := 2000
        settleCount := 4, settleCounter := 4, clockCounter := 523000, oscCounter := 2000
        energized := some (.a, .sen) } }

/-- A begun scan that waits for space before step 2, 31 records queued (Section 6.5). -/
def waiting : State :=
  { converting 31 with
    sc.state := .running .waitSpace true
    sc.current := some 2
    cu := { State.reset.cu with state := .off } }

/-- A started scan that waits unbegun, 32 records queued (Section 6.5). -/
def unbegun : State :=
  { waiting with
    sc.state := .running .waitSpace false
    sc.current := some 0
    rq.records := List.replicate 32 someRecord }

/-- SAVE PROFILE 1 in progress with row 4 under its cycle. -/
def saving : State :=
  { ready with
    nvs.status := { phase := .inProgress, last := .command .saveProfile, outcome := .ok, detail := 4 }
    nvs.engine := { busy := true, row := 4, owner := .host, second := false, image := blankImage }
    nvs.complete := (Vector.replicate 64 true).set 4 false
    nvs.road := some
      { command := .saveProfile, argument := 1, row := 4, rest := [(5, blankImage)] } }

/-- A curve save, or a row program, in progress. -/
def busyWith (c : StoreCommand) (arg : Byte) (r : Fin 64) : State :=
  { saving with
    nvs.status := { phase := .inProgress, last := .command c, outcome := .ok, detail := BitVec.ofNat 8 r.val }
    nvs.engine := { busy := true, row := r, owner := .host, second := true, image := blankImage }
    nvs.complete := (Vector.replicate 64 true).set r false
    nvs.road := some { command := c, argument := arg, row := r, rest := [] } }

/-- A row of the archive under its cycle. -/
def archiving : State :=
  { ready with
    au.mode := .wrap
    au.committed := some [someBody]
    au.writePointer := 40
    au.nextSeq := 7
    nvs.engine := { busy := true, row := 40, owner := .archive, second := false, image := blankImage }
    nvs.complete := (Vector.replicate 64 true).set 40 false }

/-- The same at the moment its end is reported: the engine has gone IDLE. -/
def archiveEnded : State := { archiving with nvs.engine.busy := false }

/-- An ARCHIVE ERASE with row `r` under its cycle. -/
def erasing (r : Fin 64) : State :=
  { archiving with
    au.erase := some { row := some r, failedRow := none }
    nvs.status := { phase := .inProgress, last := .command .archiveErase, outcome := .ok, detail := 32 } }

/-! ## Measurement commands -/

/-- Section 2.7, happening 4. -/
theorem test_arm_invalid :
    (did .arm (heat false)).sc.status = { last := .command .arm, outcome := .invalid, detail := 3 } := by
  decide

/-- Section 2.7, happening 6. -/
theorem test_arm_ok : (did .arm (heat true)).sc.state = .armed := by decide

/-- Section 3.8 at 20,600: the SCAN_END record of a STOP. -/
theorem test_stop_record :
    (did .stop (converting 0)).rq.records = [.scanEnd false true 2 .stopped 1 0 20600] := by decide

theorem test_stop_abandons : (did .stop (converting 0)).cu.energized = none := by decide

/-- Section 3.8, last paragraph: the latch is set already. -/
theorem test_trigger_overrun :
    (did .trigger { converting 0 with sc.pending := true }).sc.status =
      { last := .command .trigger, outcome := .ok, detail := 2 } := by decide

theorem test_trigger_begins : (did .trigger armed).sc.scanNumber = 1 := by decide

theorem test_resetScan_tallies : (did .resetScan (converting 3)).sc.scanNumber = 0 := by decide

/-- Section 6.5: the POP that brings level 30 releases step 2. -/
theorem test_pop_releases : (did .pop waiting).sc.state = .running .converting true := by decide

/-- Section 6.5: level 31 does not begin scan 12. -/
theorem test_pop_waits : (did .pop unbegun).sc.state = .running .waitSpace false := by decide

theorem test_clearQueue_begins : (did .clearQueue unbegun).sc.scanNumber = 3 := by decide

/-- Section 4.6, happening 5. -/
theorem test_commitCurve_invalid :
    (did .commitCurve
      { ready with
        sc.argument := 1
        rcu.curves := #v[resetCurve, curve1 65536 false, resetCurve, resetCurve] }).sc.status =
      { last := .command .commitCurve, outcome := .invalid, detail := 2 } := by decide

/-- Section 4.6, happening 7. -/
theorem test_commitCurve_ok :
    (did .commitCurve { heat false with sc.argument := 1 }).rcu.curves[1].valid = true := by decide

theorem test_unknownMeasurementCommand :
    (did (.unknownMeasurementCommand 0x08) ready).sc.status =
      { last := .raw 0x08, outcome := .unknown, detail := 0 } := by decide

/-! ## Store commands -/

/-- Row 64 does not exist (R134). -/
theorem test_loadRow_range :
    (did .loadRow { ready with nvs.argument := 64 }).nvs.status.outcome = .range := by decide

theorem test_loadRow_copies :
    (did .loadRow { ready with nvs.argument := 25, nvs.cells := [(1603, 0x5A)] }).nvs.page.data[3] =
      0x5A := by decide

/-- A merge keeps the bytes that were not loaded (R135). -/
theorem test_programRow_merges :
    (did .programRow
      { ready with
        nvs.argument := 25
        nvs.cells := [(1603, 0x5A)]
        nvs.page.loaded := (Vector.replicate 64 false).set 4 true
        nvs.page.data := Vector.replicate 64 0x11 }).nvs.engine.image.toList.take 5 =
      [0xFF, 0xFF, 0xFF, 0x5A, 0x11] := by decide

theorem test_programRow_archive :
    (did .programRow { ready with nvs.argument := 32, au.mode := .wrap }).nvs.status.outcome =
      .range := by decide

/-- An absent profile (R168). -/
theorem test_loadProfile_absent :
    (did .loadProfile ready).nvs.status =
      { phase := .idle, last := .command .loadProfile, outcome := .checkFail, detail := 254 } := by
  decide

/-- Section 8.8 at 0: rows 4 to 7, the record shows row 4. -/
theorem test_saveProfile_row :
    (did .saveProfile { ready with nvs.argument := 1 }).nvs.status =
      { phase := .inProgress, last := .command .saveProfile, outcome := .ok, detail := 4 } := by decide

theorem test_saveProfile_tag :
    (did .saveProfile { ready with nvs.argument := 1 }).nvs.engine.image.toList.take 7 =
      [0x5C, 1, 0, 0, 0, 0x40, 0] := by decide

theorem test_loadCurve_locked :
    (did .loadCurve armed).nvs.status.outcome = .locked := by decide

/-- Section 10.5: curve 2 lies in rows 20 and 21; Table 12-11: tag, number, count, first x. -/
theorem test_saveCurve_image :
    (did .saveCurve { heat true with nvs.argument := 0 }).nvs.engine.image.toList.take 6 =
      [0x6C, 0, 6, 0x00, 0x40, 0x00] := by decide

theorem test_saveCurve_row :
    (did .saveCurve { ready with nvs.argument := 2 }).nvs.engine.row = 20 := by decide

/-- Table 12-11: the boot record of row 24; the check is FFFFh less 7Ch + 1 + 1 + 1. -/
theorem test_setBoot_image :
    (did .setBoot { ready with nvs.bootStage := #v[0, 1, 1, 1] }).nvs.engine.image.toList.take 8 =
      [0x7C, 0, 1, 1, 1, 0x80, 0xFF, 0xFF] := by decide

theorem test_setBoot_range :
    (did .setBoot { ready with nvs.bootStage := #v[0, 1, 3, 1] }).nvs.status.detail = 2 := by decide

/-- The number of records in FILLING before the flush (R153). -/
theorem test_archiveFlush_detail :
    (did .archiveFlush { ready with au.filling := [someBody, someBody] }).nvs.status.detail = 2 := by
  decide

theorem test_archiveErase_row : (did .archiveErase ready).nvs.engine.row = 32 := by decide

theorem test_unknownStoreCommand_busy :
    (did (.unknownStoreCommand 0x30) saving).nvs.status.last = .command .saveProfile := by decide

/-! ## Committing writes -/

/-- The step staging window with the image of entry 3 of Section 2.7 and the given pair byte. -/
def staged3 (pair : Byte) : State :=
  { heat true with
    plan.stepIndex := 3
    plan.stepStage :=
      #v[0x3B, 0x04, 0xD0, 0x07, 0x00, 0x04, pair, 0x01, 0x03, 0x0C, 0xFE, 0x1C, 0x25] }

/-- Section 2.7, happening 1. -/
theorem test_stepWrite_range :
    (did (.stepWrite 0x25) (staged3 5)).sc.status =
      { last := .stepWrite, outcome := .range, detail := 3 } := by decide

/-- Section 2.7, happening 2, with Table 12-9. -/
theorem test_stepWrite_ok :
    (did (.stepWrite 0x25) (staged3 2)).plan.entries[3] = (heat true).plan.entries[3] := by decide

/-- Section 2.7, happening 3: INTERVAL; RISING; REPEAT and HOLD; 640. -/
theorem test_configWrite :
    (did (.configWrite 0x02)
      { ready with plan.configStage := #v[0x02, 0x00, 0x01, 0x80, 0x00] }).plan.config =
      { line := false, interval := true, immediate := false, edge := .rising
        repeatMode := .repeating, units := 640, policy := .hold } := by decide

/-- An interval of 0 fails, and the group is reloaded (R33). -/
theorem test_configWrite_zero :
    (did (.configWrite 0x00)
      { ready with plan.configStage := #v[0x02, 0x00, 0x01, 0x00, 0x00] }).plan.configStage =
      #v[0x00, 0x00, 0x00, 0x40, 0x00] := by decide

/-- The image of R185 for an entry at its reset values. -/
theorem test_stepView_image :
    (did .stepViewLatch { ready with plan.viewCopy := Vector.replicate 13 0 }).plan.viewCopy =
      #v[0, 0, 0, 1, 0, 0, 0xFF, 0xFF, 1, 0, 0x80, 0xFF, 0x7F] := by decide

theorem test_stepView_none :
    (did .stepViewLatch { ready with plan.viewIndex := 16 }).plan.viewCopy =
      Vector.replicate 13 0 := by decide

theorem test_timeLatch_byte :
    (did .timeLatch { ready with tb.count := 0x12345678 }).port.sdo = some 0x78 := by decide

theorem test_timeSet :
    (did (.timeSet 0x12) { ready with tb.stage := #v[0x78, 0x56, 0x34, 0xFF] }).tb.count =
      0x12345678 := by decide

/-- Section 4.6, happening 1. -/
theorem test_entryWrite :
    (did (.entryWrite 0x15)
      { ready with rcu.select := 1, rcu.entryStage := #v[0x00, 0x40, 0x00, 0xE0, 0] }).rcu.curves[1].points[0] =
      { x := 16384, y := 5600 } := by decide

/-- Section 4.6, happening 8. -/
theorem test_entryWrite_locked :
    (did (.entryWrite 0) { armed with rcu.select := 1 }).rcu.editStatus =
      { last := .entryWrite, outcome := .locked, detail := 1 } := by decide

/-- Section 4.6, happening 3. -/
theorem test_countWrite_range :
    (did (.countWrite 30) { ready with rcu.select := 1 }).rcu.editStatus =
      { last := .countWrite, outcome := .range, detail := 30 } := by decide

/-- Section 4.6, happening 4. -/
theorem test_countWrite_ok :
    (did (.countWrite 4) { ready with rcu.select := 1 }).rcu.curves[1].count = 4 := by decide

/-- Section 4.6, happening 6: x 98,304 and y 1,600. -/
theorem test_curveEntryLatch :
    (did .curveEntryLatch { heat true with rcu.select := 1, rcu.index := 2 }).rcu.entryCopy =
      #v[0x00, 0x80, 0x01, 0x40, 0x06] := by decide

/-- Section 5.8, happening 2: step 1 reads ABOVE. -/
theorem test_limitStatus_byte :
    (did .limitStatusLatch
      { ready with lw.records :=
          (Vector.replicate 16 resetLimitRecord).set 1 ⟨.settled .above, none, 0⟩ }).port.sdo =
      some 0x0C := by decide

theorem test_watermark_ignored : (did (.watermarkWrite 33) ready).rq.watermark = 16 := by decide

/-- A watermark lowered to the level makes the condition hold at once (R112). -/
theorem test_watermark_raises :
    flagSet (did (.watermarkWrite 3) (converting 3)) .watermark = true := by decide

theorem test_headWindow_kind :
    (did .headWindowLatch (converting 3)).port.sdo = some 1 := by decide

theorem test_headWindow_empty : (did .headWindowLatch ready).rq.headCopy = none := by decide

theorem test_eventFlags_byte :
    (did .eventFlagLatch { ready with ev.flags := 0x423 }).port.sdo = some 0x23 := by decide

/-- Section 7.7: SCAN_END and CONV_FAULT fall, WATERMARK stays. -/
theorem test_eventClear_watermark :
    (did (.eventClear .first 0x23) { converting 16 with ev.flags := 0x023 }).ev.flags = 0x002 := by
  decide

theorem test_eventClear_second :
    (did (.eventClear .second 0x04) { ready with ev.flags := 0x423 }).ev.flags = 0x023 := by decide

/-- A bit without a flag is stored as 0 (R125). -/
theorem test_eventEnable_unused :
    (did (.eventEnableWrite .second 0xFF) ready).ev.enable = 0x700 := by decide

theorem test_loadPort_wraps :
    (did (.loadPortWrite 0xAA) { ready with nvs.page.pointer := 63 }).nvs.page.pointer = 0 := by decide

theorem test_loadPort_refused :
    (did (.loadPortWrite 0xAA) (busyWith .programRow 25 25)).nvs.page.data[0] = 0xFF := by decide

/-- Section 11.7, frame 1. -/
theorem test_readPointerSet :
    (did (.readPointerSet 0x0A) ready).nvs.readPointer = 2560 := by decide

theorem test_readPointerSet_range :
    (did (.readPointerSet 0x10) ready).nvs.readPointer = 0 := by decide

theorem test_readPointerLatch_byte :
    (did .readPointerLatch { ready with nvs.readPointer := 2590 }).port.sdo = some 0x1E := by decide

theorem test_readPort_wraps :
    (did .readPortRead { ready with nvs.readPointer := 4095 }).nvs.readPointer = 0 := by decide

/-- A BLANK row reads FFh whatever its cells hold (R128). -/
theorem test_readPort_blank :
    (did .readPortRead
      { saving with nvs.readPointer := 256, nvs.cells := [(256, 0x5C)] }).port.sdo = some 0xFF := by decide

theorem test_archiveControl_ignored :
    (did (.archiveControlWrite 0x13) ready).au.flushAtEnd = false := by decide

theorem test_archiveControl_fill : (did (.archiveControlWrite 0xF2) ready).au.mode = .fill := by decide

/-- Table 12-6: COMMITTED, buffer 1 filling and empty, buffer 0 with one record, pointer 40. -/
theorem test_archiveStatus_bytes :
    (did .archiveStatusLatch { archiving with au.fillingIndex := 1 }).au.copy =
      #v[0x62, 0x01, 0x28, 0x07, 0x00, 0x00, 0x00] := by decide

/-- Section 11.7, frame 3, its first byte. -/
theorem test_registerWrite_index :
    (did (.registerWrite 0x0C 6)
      { ready with port.frame := .data .mode3 .write 0x0C }).port.frame =
      .data .mode3 .write 0x0D := by decide

theorem test_registerWrite_readOnly : (did (.registerWrite 0x05 6) ready).sc.status =
    ready.sc.status := by decide

/-! ## Frames, lines, reset -/

theorem test_frameStart_mode :
    (did (.frameStart true) ready).port.frame = .header .mode3 := by decide

/-- Clock mode 0 fetches the start address at the end of a read header (R177). -/
theorem test_header_fetches :
    (did (.headerByte 0xE6) { ready with port.frame := .header .mode0 }).nvs.readPointer = 1 := by decide

theorem test_header_mode3 :
    (did (.headerByte 0xE6) { ready with port.frame := .header .mode3 }).port.frame =
      .data .mode3 .read 0x66 := by decide

/-- While CSN is high the port takes no byte (R175). -/
theorem test_idle_ignores : exec .arm (heat true) = .next (heat true) := by rfl

/-- A frame does not leave a port address (R176): after a byte at 63h none reaches 64h. -/
theorem test_port_keeps_frame :
    (after (exec (.registerWrite 0x64 7) (framed .write 0x63 ready))).nvs.readStage[0] = 0 := by decide

/-- A read frame takes no write byte (R176). -/
theorem test_read_frame_ignores :
    (after (exec (.watermarkWrite 3) (framed .read 0x3F ready))).rq.watermark = 16 := by decide

/-- A read frame from 65h runs up to the read port and is served there (R176). -/
theorem test_read_runs_on :
    (after (exec .readPortRead (framed .read 0x65 ready))).port =
      { frame := .data .mode3 .read 0x66, sdo := some 0xFF } := by decide

/-- SDO is at high impedance in a write frame (R175). -/
theorem test_write_releases : (did (.registerWrite 0x0C 6) ready).port.sdo = none := by decide

/-- A port address does not advance (R176). -/
theorem test_port_stays :
    (did .readPortRead { ready with port.frame := .data .mode3 .read 0x66 }).port.frame =
      .data .mode3 .read 0x66 := by decide

theorem test_frameEnd :
    (did .frameEnd { ready with port.frame := .data .mode3 .read 0x66 }).port.frame = .idle := by
  decide

/-- Section 3.8 at 20,300. -/
theorem test_trgEdge_latch :
    (did (.trgEdge .rising) { converting 0 with plan.config.line := true }).sc.pending = true := by
  decide

/-- Section 3.8 at 20,100. -/
theorem test_trgEdge_other :
    (did (.trgEdge .falling) { armed with plan.config.line := true }).sc.state = .armed := by decide

/-- Table 12-6: bit 5 of the store status byte is WP. -/
theorem test_wp_status : storeStatusByte (did (.wpChange true) ready) = 0x24 := by decide

theorem test_fullReset_rows : (did .fullReset saving).nvs.complete[4] = false := by decide

theorem test_startUp_blank : (did (.startUp 6) State.reset).power = .running := by decide

/-! ## Clocks, phase ends, results -/

/-- Section 3.8: 100 ticks after a load of 16 units, 10 remain. -/
theorem test_tick_units :
    (did (.timeBaseTick 100) { armed with sc.timer := some ⟨16, 0, 0⟩ }).sc.timer =
      some ⟨10, 4, 0⟩ := by decide

/-- R52: an interval of 2 units is 32 ticks; 36 ticks past an expiry that was 1 tick away are one more
expiry and 4 ticks of the next period. -/
theorem test_tick_reloads :
    (did (.timeBaseTick 37) { armed with plan.config.units := 2, sc.timer := some ⟨1, 15, 0⟩ }).sc.timer =
      some ⟨2, 4, 2⟩ := by decide

theorem test_tick_wraps :
    (did (.timeBaseTick 2) { ready with tb.count := 0xFFFFFFFF }).tb.count = 1 := by decide

/-- Section 3.8 at 20,256. -/
theorem test_expiry_begins :
    (did .intervalExpiry { armed with sc.timer := some ⟨16, 0, 1⟩ }).sc.state =
      .running .converting true := by decide

/-- The Conversion Unit of Section 1.4, step 0, in the given phase. -/
def unit0 (p : CuPhase) (settle clock osc : Nat) : State :=
  { heat true with
    sc.state := .running .converting true
    sc.current := some 0
    tb.count := 82018
    cu :=
      { state := p, path := .leg .a .ref, gateMode := .time, gateLength := 400000, settleCount := 4
        settleCounter := settle, clockCounter := clock, oscCounter := osc
        energized := some (.a, .ref) } }

theorem test_cclk_stops :
    (did (.cclkPeriod 500000) (unit0 .gate 4 0 0)).cu.clockCounter = 400000 := by decide

theorem test_cycle_counts :
    (did (.oscillationCycle (.channel .a) 1) (unit0 .settle 0 201 0)).cu.settleCounter = 1 := by decide

/-- R10: cycle and clock period meet at the ceiling, the cycle taken first: GOOD with 16,777,215. -/
theorem test_ceiling_meets :
    (did .cyclesGateClose (did (.cclkPeriod 1)
      { converting 0 with cu.clockCounter := 16777214 })).rcu.slots[1] = ⟨true, 16777215, 2000⟩ := by
  decide

/-- R5: any later period is not counted while the close is due. -/
theorem test_close_holds :
    (did (.cclkPeriod 7) (converting 0)).cu.clockCounter = 523000 := by decide

/-- An edge on FIN counts nothing on a leg path (R18). -/
theorem test_cycle_fin :
    (did (.oscillationCycle .fin 5) (unit0 .gate 4 0 0)).cu.oscCounter = 0 := by decide

theorem test_settleComplete : (did .settleComplete (unit0 .settle 4 801 4)).cu.clockCounter = 0 := by
  decide

/-- Section 1.4: the slot of step 0, and the order for step 1. -/
theorem test_timeGate_slot :
    (did .timeGateClose (unit0 .gate 4 400000 2000)).rcu.slots[0] = ⟨true, 400000, 2000⟩ := by decide

theorem test_timeGate_next :
    (did .timeGateClose (unit0 .gate 4 400000 2000)).cu.energized = some (.a, .sen) := by decide

/-- Section 1.4, the open thermistor. -/
theorem test_settleTimeout_slot :
    (did .settleTimeout (unit0 .settle 0 65536 0)).rcu.slots[0] = ⟨false, 65536, 0⟩ := by decide

/-- Section 4.5, step 1: ratio 85,688, value 1,909; the record of R57. -/
theorem test_cyclesGate_record :
    (did .cyclesGateClose (converting 0)).rq.records =
      [.measurement false
        { someBody with scan := 2, stamp := 20600, late := true } 523000 2000] := by decide

theorem test_stallCeiling_fault :
    flagSet (did .stallCeiling
      { converting 0 with cu.clockCounter := 16777215, cu.oscCounter := 3 }) .convFault = true := by
  decide

/-- Section 8.8 at -1: row 24 ends, the archive claim of row 40 starts. -/
theorem test_attemptEnd_alternates :
    (did (.programAttemptEnd true)
      { busyWith .setBoot 0 24 with
        nvs.archiveClaim := some { row := 40, image := .fixed blankImage } }).nvs.engine.row = 40 := by
  decide

/-- Section 8.8 at 17: the first attempt failed, the row is still under its cycle. -/
theorem test_attemptEnd_second :
    (did (.programAttemptEnd false) saving).nvs.engine.second = true := by decide

/-! ## Ratio, curve and limits -/

/-- Section 4.5, other ratios through curve 0. -/
theorem test_placement :
    [98304, 131072, 140000, 10000, 40000, 85688].map
        (fun x => (placeRatio x (activePoints curve0)).value) =
      [some 1600, some 1000, some 1000, some 5600, some 3825, some 1909] := by decide

/-- Section 5.8, scans 7 to 9. -/
theorem test_limit_filter :
    updateRecord 3 .above ⟨.settled .inside, some .above, 2⟩ = ⟨.settled .above, none, 0⟩ := by decide

/-- Section 9.7, a row that reads FFh throughout fails its check. -/
theorem test_blank_row_invalid : rowValid blankImage = false := by decide

/-! ## States that meet the hypotheses of the statements -/

/-- A state with a write frame that has come to the measurement command byte. -/
def cmd (s : State) : State := framed .write 0x04 s

/-- A state with a write frame that has come to the store command byte. -/
def sto (s : State) : State := framed .write 0x5D s

theorem inService_framed {a : Addr} {s : State} (h : s.power = .running) :
    inService a (framed .write a s) := ⟨h, _, rfl⟩

theorem inBooting_framed {a : Addr} {s : State} (h : isBooting s = true) :
    inBooting a (framed .write a s) := ⟨h, _, rfl⟩

theorem storeFree_framed {s : State} (h : s.power = .running) (h' : s.nvs.status.phase = .idle) :
    storeFree (sto s) := ⟨inService_framed h, h'⟩

theorem readFrameAt_framed {a : Addr} {s : State} (h : s.power ≠ .held) (h' : nextReadStop a = a) :
    readFrameAt a (framed .read a s) := ⟨h, _, _, rfl, h'⟩

theorem witness_PlanValidation :
    (∀ j : Fin 16, ready.plan.entries[j].enabled = false) ∧
    (heat false).plan.entries[(3 : Fin 16)].enabled = true ∧
    validatePlan (heat false) = some 3 ∧ validatePlan (heat true) = none := by decide

theorem witness_ArmCommand :
    (inService 0x04 (cmd (heat false)) ∧ (cmd (heat false)).sc.state = .stopped ∧
      validatePlan (cmd (heat false)) = some 3) ∧
    (inService 0x04 (cmd (heat true)) ∧ (cmd (heat true)).sc.state = .stopped ∧
      validatePlan (cmd (heat true)) = none) ∧
    (inService 0x04 (cmd armed) ∧ (cmd armed).sc.state ≠ .stopped) :=
  ⟨⟨inService_framed rfl, by decide⟩, ⟨inService_framed rfl, by decide⟩, inService_framed rfl,
    by decide⟩

theorem witness_TriggerRules :
    ready.sc.state = .stopped ∧ armed.sc.state = .armed ∧
    (inService 0x04 (cmd (converting 0)) ∧
      (cmd (converting 0)).sc.state = .running .converting true ∧
      (cmd (converting 0)).sc.pending = false) :=
  ⟨by decide, by decide, inService_framed rfl, by decide⟩

theorem witness_ScanStart :
    isFirstEnabled armed.plan 0 ∧ armed.cu.state = .off ∧ mayStart armed ∧
    isFirstEnabled unbegun.plan 0 ∧ unbegun.cu.state = .off ∧ ¬ mayStart unbegun := by
  unfold isFirstEnabled mayStart; decide

theorem witness_StopCommand :
    (inService 0x04 (cmd unbegun) ∧ (cmd unbegun).sc.state = .running .waitSpace false) ∧
    (inService 0x04 (cmd (converting 31)) ∧
      (cmd (converting 31)).sc.state = .running .converting true) ∧
    (inService 0x04 (cmd armed) ∧ (cmd armed).sc.state = .armed) ∧
    (inService 0x04 (cmd ready) ∧ (cmd ready).sc.state = .stopped) ∧
    (converting 31).cu.state ≠ .off :=
  ⟨⟨inService_framed rfl, by decide⟩, ⟨inService_framed rfl, by decide⟩,
    ⟨inService_framed rfl, by decide⟩, ⟨inService_framed rfl, by decide⟩, by decide⟩

theorem witness_ResetScanCommand :
    inService 0x04 (cmd (converting 31)) ∧ 1 ≤ (cmd (converting 31)).rq.watermark :=
  ⟨inService_framed rfl, by decide⟩

theorem witness_PopCommand :
    (inService 0x04 (cmd waiting) ∧ (cmd waiting).sc.state = .running .waitSpace true ∧
      (cmd waiting).sc.current = some 2) ∧
    (inService 0x04 (cmd unbegun) ∧ (cmd unbegun).sc.state = .running .waitSpace false ∧
      (cmd unbegun).sc.current = some 0 ∧ isFirstEnabled (cmd unbegun).plan 0) ∧
    mayStart { waiting with rq.records := waiting.rq.records.tail } ∧
    ¬ mayStart { unbegun with rq.records := unbegun.rq.records.tail } :=
  ⟨⟨inService_framed rfl, by decide⟩,
    ⟨inService_framed rfl, by decide, by decide, by unfold isFirstEnabled; decide⟩,
    by unfold mayStart; decide, by unfold mayStart; decide⟩

theorem witness_ClearQueueCommand :
    (inService 0x04 (cmd waiting) ∧ 1 ≤ (cmd waiting).rq.watermark ∧
      (cmd waiting).sc.state = .running .waitSpace true ∧ (cmd waiting).sc.current = some 2) ∧
    (inService 0x04 (cmd unbegun) ∧ (cmd unbegun).sc.state = .running .waitSpace false ∧
      (cmd unbegun).sc.current = some 0 ∧ isFirstEnabled (cmd unbegun).plan 0) :=
  ⟨⟨inService_framed rfl, by decide⟩,
    ⟨inService_framed rfl, by decide, by decide, by unfold isFirstEnabled; decide⟩⟩

theorem witness_CommitCurve :
    commitCheck curve0 = none ∧ commitCheck (curve1 65536 false) = some 2 ∧
    commitCheck resetCurve = some 255 ∧
    inService 0x04 (cmd { ready with sc.argument := 4 }) ∧
    (inService 0x04 (cmd armed) ∧ (cmd armed).sc.argument.toNat = (0 : Fin 4).val ∧
      (cmd armed).sc.state ≠ .stopped) :=
  ⟨by decide, by decide, by decide, inService_framed rfl, inService_framed rfl, by decide⟩

theorem witness_CommandByteRefusals :
    inService 0x04 (cmd ready) ∧ wellFormed (.unknownMeasurementCommand 0x08) = true ∧
    storeFree (sto ready) ∧ wellFormed (.unknownStoreCommand 0x2A) = true ∧
    (inService 0x5D (sto saving) ∧ (sto saving).nvs.status.phase = .inProgress) :=
  ⟨inService_framed rfl, by decide, storeFree_framed rfl rfl, by decide, inService_framed rfl, rfl⟩

theorem witness_BootingAnswersBusy :
    inBooting 0x04 (cmd boot) ∧ inBooting 0x5D (sto boot) ∧
    (Instr.arm, (0x01 : Byte), MeasLast.command .arm) ∈ measurementRows ∧
    (Instr.archiveErase, (0x29 : Byte), StoreCommand.archiveErase) ∈ storeRows :=
  ⟨inBooting_framed rfl, inBooting_framed rfl, by decide, by decide⟩

theorem witness_BootingIgnoresWrites :
    inBooting 0x19 (framed .write 0x19 boot) ∧ inBooting 0x5C (framed .write 0x5C boot) ∧
    inBooting 0x0C (framed .write 0x0C boot) ∧ wellFormed (.registerWrite 0x0C 0) = true :=
  ⟨inBooting_framed rfl, inBooting_framed rfl, inBooting_framed rfl, by decide⟩

theorem witness_LoadRowCommand :
    storeFree (sto { ready with nvs.argument := 64 }) ∧
    storeFree (sto { ready with nvs.argument := 63 }) ∧
    (63 : Byte).toNat = (63 : Fin 64).val :=
  ⟨storeFree_framed rfl rfl, storeFree_framed rfl rfl, rfl⟩

theorem witness_ProgramRowCommand :
    storeFree (sto { ready with nvs.argument := 32, au.mode := .wrap }) ∧
    storeFree (sto { ready with nvs.argument := 31, pins.wp := true }) ∧
    storeFree (sto { ready with nvs.argument := 32, pins.wp := true }) :=
  ⟨storeFree_framed rfl rfl, storeFree_framed rfl rfl, storeFree_framed rfl rfl⟩

theorem witness_SaveCommands :
    storeFree (sto { ready with nvs.argument := 4 }) ∧
    storeFree (sto { ready with nvs.argument := 3, pins.wp := true }) ∧
    (storeFree (sto { ready with nvs.argument := 3 }) ∧ (sto ready).pins.wp = false) :=
  ⟨storeFree_framed rfl rfl, storeFree_framed rfl rfl, storeFree_framed rfl rfl, rfl⟩

theorem witness_SetBootCommand :
    storeFree (sto { ready with nvs.bootStage := #v[4, 0, 0, 0] }) ∧
    bootRegisterFault #v[4, 0, 0, 0] = some 0 ∧ bootRegisterFault #v[3, 1, 2, 1] = none ∧
    storeFree (sto { ready with nvs.bootStage := #v[3, 1, 2, 1], pins.wp := true }) :=
  ⟨storeFree_framed rfl rfl, by decide, by decide, storeFree_framed rfl rfl⟩

/-- A store with the heat meter's curve 0 in rows 16 and 17. -/
def withCurve (v : Curve) : Store :=
  completeRow 17 (rowOfImage (curveImage 0 v) 1)
    (completeRow 16 (rowOfImage (curveImage 0 v) 0) State.reset.nvs)

theorem witness_LoadCurveCommand :
    storeFree (sto { ready with nvs := withCurve curve0 }) ∧
    judgeCurve 0 (curveRowsBytes (withCurve curve0) 0) = .good ∧
    judgeCurve 1 (curveRowsBytes (withCurve curve0) 1) = .absent ∧
    (storeFree (sto armed) ∧ (sto armed).sc.state ≠ .stopped) :=
  ⟨storeFree_framed rfl rfl, by decide, by decide, storeFree_framed rfl rfl, by decide⟩

/-- A curve row whose image has another curve's number is bad (R163). -/
theorem witness_LoadCurveCommand_bad :
    judgeCurve 0 (curveRowsBytes
      (completeRow 16 (rowOfImage (curveImage 1 curve0) 0) State.reset.nvs) 0) = .bad := by decide

/-- A store with the heat meter's plan as profile 0, interval `units`. -/
def withProfile (units : Word16) : Store :=
  let img := profileImage 0 (heat true).plan.entries { resetConfig with units := units }
  completeRow 3 (rowOfImage img 3) (completeRow 2 (rowOfImage img 2)
    (completeRow 1 (rowOfImage img 1) (completeRow 0 (rowOfImage img 0) State.reset.nvs)))

theorem witness_LoadProfileCommand :
    storeFree (sto { ready with nvs := withProfile 64 }) ∧
    judgeProfile 0 (profileRowsBytes (withProfile 64) 0) = .good ∧
    (∀ k : Fin 16, decodeStep k (profileStep (profileRowsBytes (withProfile 64) 0) k) =
      some (heat true).plan.entries[k]) :=
  ⟨storeFree_framed rfl rfl, by decide +kernel, by decide +kernel⟩

theorem witness_LoadProfileCommand_config :
    judgeProfile 0 (profileRowsBytes (withProfile 0) 0) = .good ∧
    decodeConfig (profileConfig (profileRowsBytes (withProfile 0) 0)) = none ∧
    judgeProfile 1 (profileRowsBytes (withProfile 0) 1) = .absent := by decide +kernel

theorem witness_ArchiveFlushCommand :
    (storeFree (sto { ready with au.filling := [someBody] }) ∧
      (sto { ready with au.filling := [someBody] }).au.erase = none ∧
      engineLaw (sto { ready with au.filling := [someBody] })) ∧
    (storeFree (sto { archiving with au.filling := [someBody] }) ∧
      engineLaw (sto { archiving with au.filling := [someBody] })) :=
  ⟨⟨storeFree_framed rfl rfl, rfl, by unfold engineLaw; decide⟩, storeFree_framed rfl rfl,
    by unfold engineLaw; decide⟩

theorem witness_ArchiveEraseCommand :
    (storeFree (sto archiving) ∧ (sto archiving).nvs.engine.busy = true ∧
      (sto archiving).nvs.engine.owner = .archive) ∧
    (storeFree (sto ready) ∧ (sto ready).nvs.engine.busy = false) :=
  ⟨⟨storeFree_framed rfl rfl, by decide⟩, storeFree_framed rfl rfl, by decide⟩

theorem witness_ArbiterStartsCycle :
    let n : Store :=
      { State.reset.nvs with
        hostClaim := some { row := 5, image := .merge }
        archiveClaim := some { row := 40, image := .fixed blankImage } }
    n.engine.busy = false ∧ n.hostClaim = some { row := 5, image := .merge } ∧
    n.engine.owner = .archive ∧
    ({ n with engine.owner := .host } : Store).engine.owner = .host := by decide

theorem witness_AttemptVerdict :
    saving.nvs.engine.busy = true ∧ saving.nvs.engine.second = false ∧
    (busyWith .setBoot 0 24).nvs.engine.second = true ∧
    Memory.wf saving.nvs.cells = true := by decide

theorem witness_LongCommandRowEnd :
    saving.nvs.engine.owner = .host ∧
    saving.nvs.road = some
      { command := .saveProfile, argument := 1, row := 4, rest := [(5, blankImage)] } ∧
    (busyWith .programRow 25 25).nvs.road = some
      { command := .programRow, argument := 25, row := 25, rest := [] } := by decide

theorem witness_ArchiveRecordOffered :
    archiving.au.mode ≠ .off ∧ archiving.au.full = false ∧ archiving.au.filling.length < 4 ∧
    archiving.au.committed ≠ none ∧ ready.au.mode = .off ∧
    ({ ready with au.mode := .wrap, au.filling := [someBody, someBody, someBody] } :
      State).au.filling.length = 3 ∧
    ({ ready with au.mode := .fill, au.full := true } : State).au.full = true ∧
    ({ archiving with au.filling := [someBody, someBody, someBody, someBody] } :
      State).au.filling.length = 4 := by decide

theorem witness_ArchiveRowEnds :
    archiveEnded.nvs.engine.owner = .archive ∧ archiveEnded.au.erase = none ∧
    archiveEnded.au.committed = some [someBody] ∧ archiveEnded.au.full = false ∧
    archiveEnded.au.nextSeq ≠ 0xFFFFFFFF ∧
    ¬ (archiveEnded.au.mode = .fill ∧ archiveEnded.au.writePointer = 63) ∧
    archiveEnded.au.failedOnce = false ∧
    (let s : State := { ready with au.filling := [someBody], au.flushPending := true }
     s.au.committed = none ∧ s.au.flushPending = true ∧ s.au.filling ≠ []) := by decide

theorem witness_RingFull :
    let s : State := { archiveEnded with au.mode := .fill, au.writePointer := 63 }
    s.nvs.engine.owner = .archive ∧ s.nvs.engine.busy = false ∧ s.au.erase = none ∧
    s.au.mode = .fill ∧ s.au.writePointer = 63 ∧
    ({ archiveEnded with au.nextSeq := 0xFFFFFFFF } : State).au.nextSeq = 0xFFFFFFFF := by decide

theorem witness_EraseRowEnds :
    (erasing 62).nvs.engine.owner = .archive ∧
    (erasing 62).au.erase = some { row := some 62, failedRow := none } ∧
    (erasing 63).au.erase = some { row := some 63, failedRow := none } ∧
    (erasing 63).au.committed = some [someBody] ∧
    (let s : State := { archiveEnded with au.erase := some { row := none, failedRow := none } }
     s.nvs.engine.owner = .archive ∧ s.nvs.engine.busy = false ∧
     s.au.erase = some { row := none, failedRow := none } ∧ s.au.nextSeq ≠ 0xFFFFFFFF) := by decide

/-- The newest row of a ring of two valid rows with one sequence number is the lower (R162). -/
theorem witness_NewestRowFound :
    newestRow (completeRow 41 (archiveRowImage 9 [someBody])
      (completeRow 40 (archiveRowImage 9 [someBody]) State.reset.nvs)) = some (40, 9) := by decide +kernel

theorem witness_PlanWrites :
    (inService 0x19 (framed .write 0x19 armed) ∧ planLock (framed .write 0x19 armed)) ∧
    (inService 0x19 (framed .write 0x19 (staged3 2)) ∧
      ¬ planLock (framed .write 0x19 (staged3 2)) ∧
      (framed .write 0x19 (staged3 2)).plan.stepIndex.toNat = (3 : Fin 16).val) ∧
    decodeStep 3 ((staged3 2).plan.stepStage.set 12 0x25) ≠ none ∧
    decodeStep 3 ((staged3 3).plan.stepStage.set 12 0x25) = none ∧
    decodeConfig (ready.plan.configStage.set 4 0xFF) ≠ none ∧
    decodeConfig (#v[0x08, 0, 0, 1, 0] : Vector Byte 5) = none := by
  refine ⟨⟨inService_framed rfl, .inl (by decide)⟩, ⟨inService_framed rfl, ?_, by decide⟩, by decide,
    by decide, by decide, by decide⟩
  rintro (h | ⟨h, hr, -⟩)
  · exact h (by decide)
  · exact absurd hr (by decide +revert)

theorem witness_PlanWrites_saving :
    inService 0x2C (framed .write 0x2C saving) ∧ planLock (framed .write 0x2C saving) :=
  ⟨inService_framed rfl, .inr ⟨_, rfl, rfl⟩⟩

theorem witness_CurveEdits :
    let s : State := framed .write 0x33 (busyWith .saveCurve 1 18)
    inService 0x33 s ∧ s.sc.state = .stopped ∧ savingCurve 1 s ∧ ¬ savingCurve 0 s ∧
    inService 0x34 (framed .write 0x34 s) :=
  ⟨inService_framed rfl, by decide, ⟨_, rfl, rfl, rfl⟩,
    fun ⟨_, h, _, ha⟩ => by cases h; exact absurd ha (by decide), inService_framed rfl⟩

theorem witness_StorePorts :
    inService 0x63 (framed .write 0x63 (busyWith .programRow 25 25)) ∧
    inService 0x65 (framed .write 0x65 ready) ∧
    (readFrameAt 0x66 (framed .read 0x66 boot) ∧
      (framed .read 0x66 boot).nvs.readPointer.toNat = 64 * (0 : Fin 64).val + 0) ∧
    (4095 : BitVec 12).toNat = 64 * (63 : Fin 64).val + 63 :=
  ⟨inService_framed rfl, inService_framed rfl, ⟨readFrameAt_framed (by decide) rfl, rfl⟩, rfl⟩

theorem witness_LatchingReads :
    (readFrameAt 0x1B (framed .read 0x1B boot) ∧ boot.plan.viewIndex.toNat = (0 : Fin 16).val) ∧
    (readFrameAt 0x2F (framed .read 0x2F boot) ∧ boot.rcu.select.toNat = (0 : Fin 4).val ∧
      boot.rcu.index.toNat = (0 : Fin 24).val) ∧
    readFrameAt 0x08 (framed .read 0x08 boot) ∧ readFrameAt 0x39 (framed .read 0x39 boot) ∧
    readFrameAt 0x40 (framed .read 0x40 boot) ∧ readFrameAt 0x55 (framed .read 0x55 boot) ∧
    readFrameAt 0x64 (framed .read 0x64 boot) ∧ readFrameAt 0x6C (framed .read 0x6C boot) := by
  refine ⟨⟨?_, rfl⟩, ⟨?_, rfl, rfl⟩, ?_, ?_, ?_, ?_, ?_, ?_⟩ <;>
    exact readFrameAt_framed (by decide) rfl

theorem witness_Frames :
    ready.port.frame = .idle ∧ ready.power ≠ .held ∧ State.reset.power = .held ∧
    (did (.frameStart false) ready).port.frame = .header .mode0 ∧
    (did (.frameStart false) State.reset).port.frame = .ignored ∧
    (framed .read 0x07 ready).port.frame = .data .mode3 .read 0x07 ∧
    ¬ writeFrameAt 0x04 ready ∧ ¬ readFrameAt 0x08 (framed .write 0x08 ready) :=
  ⟨by decide, by decide, by decide, by decide, by decide, by decide,
    fun ⟨_, h⟩ => absurd h (by simp [ready, State.reset]),
    fun ⟨_, _, _, h, _⟩ => absurd h (by simp [framed])⟩

theorem witness_Lines :
    ({ ready with plan.config.line := true } : State).plan.config.line = true ∧
    ready.plan.config.edge = .rising ∧ ready.plan.config.line = false := by decide

theorem witness_TimeBaseAndTimer :
    ready.power ≠ .held ∧ ready.sc.timer = none ∧ 15 + 0 < 16 * 1 ∧
    (let s : State := { armed with plan.config.units := 2, sc.timer := some ⟨1, 15, 0⟩ }
     s.sc.timer = some { units := 1, phase := 15, expired := 0 } ∧
     15 + 37 = 16 * 1 + 16 * s.plan.config.units.toNat * 1 + 4 ∧
     4 < 16 * s.plan.config.units.toNat ∧
     15 + 1 = 16 * 1 + 16 * s.plan.config.units.toNat * 0 + 0) ∧
    ({ armed with sc.timer := some ⟨16, 0, 1⟩ } : State).sc.timer = some ⟨16, 0, 1⟩ ∧
    inService 0x0B (framed .write 0x0B ready) :=
  ⟨by decide, rfl, by decide, by decide, rfl, inService_framed rfl⟩

theorem witness_Counting :
    (unit0 .settle 3 65535 3).cu.settleCounter < (unit0 .settle 3 65535 3).cu.settleCount ∧
    (unit0 .gate 4 399999 0).cu.clockCounter < (unit0 .gate 4 399999 0).cu.gateLength ∧
    ({ converting 0 with cu.oscCounter := 1999 } : State).cu.oscCounter < 2000 ∧
    sourceOf (converting 0).cu.path ≠ .fin ∧ ready.cu.state = .off ∧
    (unit0 .settle 4 801 4).cu.settleCounter = (unit0 .settle 4 801 4).cu.settleCount ∧
    ({ converting 0 with cu.clockCounter := 16777214 } : State).cu.oscCounter = 2000 := by decide

theorem witness_PhaseEnds :
    due (unit0 .settle 4 801 4).cu = some .settleComplete ∧
    due (unit0 .settle 0 65536 0).cu = some .settleTimeout ∧
    due (unit0 .gate 4 400000 0).cu = some .timeClose ∧
    due (converting 0).cu = some .cyclesClose ∧
    due { (converting 0).cu with clockCounter := 16777215, oscCounter := 1999 } =
      some .stallCeiling := by decide

theorem witness_ResultTaken :
    (converting 0).sc.current = some 1 ∧ isNextEnabled (converting 0).plan 1 2 ∧
    mayStart (converting 0) ∧ ¬ mayStart (converting 31) ∧
    (∀ k : Fin 16, 4 < k → (converting 0).plan.entries[k].enabled = false) := by
  unfold isNextEnabled mayStart; decide

theorem witness_ScanEnds :
    ready.plan.config.repeatMode = .oneShot ∧
    ({ converting 0 with plan.config.repeatMode := .repeating, sc.pending := true } :
      State).sc.pending = true ∧
    (let s : State := { archiving with au.flushAtEnd := true, au.filling := [someBody] }
     s.au.flushAtEnd = true ∧ s.au.filling ≠ [] ∧ s.au.committed ≠ none) := by decide

theorem witness_RatioAndValue :
    (heat true).plan.entries[(1 : Fin 16)].pair = some 0 ∧
    (heat true).plan.entries[(1 : Fin 16)].curve = some 0 ∧
    (heat true).plan.entries[(4 : Fin 16)].curve = none ∧
    (heat true).plan.entries[(0 : Fin 16)].pair = none ∧
    (converting 0).rcu.slots[(0 : Fin 16)].valid = true ∧
    1 ≤ 2000 * (converting 0).rcu.slots[(0 : Fin 16)].clock ∧ commitCheck curve0 = none ∧
    (5 : Fin 24).val + 1 = curve0.count := by decide

theorem witness_LimitUpdate :
    (heat true).plan.entries[(1 : Fin 16)].limits = true ∧
    (heat true).plan.entries[(0 : Fin 16)].limits = false ∧
    (heat true).lw.records[(1 : Fin 16)].state ≠ .settled .inside ∧
    (heat true).lw.records[(1 : Fin 16)].candidate ≠ some .inside ∧
    classify (BitVec.ofInt 16 (-500)) 9500 9500 = .inside ∧
    classify (BitVec.ofInt 16 (-500)) 9500 9501 = .above ∧
    classify (BitVec.ofInt 16 (-500)) 9500 (-501) = .below := by decide

theorem witness_QueueOfferAndAttention :
    (converting 31).rq.records.length < 32 ∧ 32 ≤ unbegun.rq.records.length := by decide

theorem witness_StepImageRoundTrip :
    legalEntry 1 ((heat true).plan.entries[(1 : Fin 16)]) ∧
    decodeStep 1 (stepImage ((heat true).plan.entries[(1 : Fin 16)])) ≠ none := by
  unfold legalEntry; decide

theorem witness_StoredImageRoundTrip :
    curve0.count ≤ 24 ∧
    rowImageOf (withCurve curve0) (rowNo (16 + 2 * (0 : Fin 4).val)) =
      rowOfImage (curveImage 0 curve0) 0 ∧
    rowImageOf (withCurve curve0) (rowNo (17 + 2 * (0 : Fin 4).val)) =
      rowOfImage (curveImage 0 curve0) 1 ∧
    bootRegisterFault #v[0xFF, 1, 2, 0] = none := by decide +kernel

theorem witness_StartUp : State.reset.power = .held := by decide

/-- A state and a step for the statements about every step: a conversion ends in a scan under HOLD. -/
theorem witness_step :
    step { converting 30 with pending := [.cyclesGateClose] } =
      .next (did .cyclesGateClose (converting 30)) := rfl

theorem converting_engineLaw : engineLaw (converting 30) := by unfold engineLaw; decide

theorem converting_roadLaw : roadLaw (converting 30) := by unfold roadLaw; decide

theorem converting_boundsLaw : boundsLaw (converting 30) :=
  ⟨by decide, by decide, by decide, by decide,
    fun _ h => absurd h (by simp [converting, heat, ready, State.reset]), by decide, by decide⟩

theorem converting_legLaw : legLaw (converting 30) := by unfold legLaw; decide

theorem converting_planLaw : planLaw (converting 30) := by unfold planLaw legalEntry; decide

theorem converting_curvesLaw : curvesLaw (converting 30) := by unfold curvesLaw xRise; decide

theorem converting_watermarkLaw : watermarkLaw (converting 30) := by unfold watermarkLaw; decide

theorem converting_armedLaw : armedLaw (converting 30) := by
  refine ⟨by decide, fun _ => ⟨⟨1, by decide⟩, ?_⟩⟩
  unfold passesChecks
  decide

theorem converting_scanLaw : scanLaw (converting 30) :=
  ⟨by decide, by decide, fun _ => ⟨0, by unfold isFirstEnabled; decide⟩,
    by decide, rfl, 1, rfl, rfl⟩

theorem converting_holdLaw : holdLaw (converting 30) :=
  fun _ => ⟨fun _ _ => by decide, fun h => absurd h (by decide)⟩

theorem witness_RowsChangeByCyclesOnly :
    saving.nvs.engine.row ≠ (5 : Fin 64) ∧ saving.nvs.engine.busy = true := by decide

theorem witness_OnlyNamedCommandsTakeAway :
    wellFormed .cyclesGateClose = true ∧
    exec .cyclesGateClose (converting 30) = .next (did .cyclesGateClose (converting 30)) :=
  ⟨rfl, rfl⟩

theorem witness_NothingWhenNotDue :
    State.reset.pending = [] ∧ State.reset.sc.timer = none ∧ State.reset.cu.state = .off ∧
    State.reset.nvs.engine.busy = false ∧ State.reset.power = .held ∧ ready.power = .running ∧
    State.reset.port.frame = .idle ∧ (framed .read 0x08 ready).port.frame ≠ .idle := by decide

theorem witness_ControlWrites :
    inService 0x3F (framed .write 0x3F ready) ∧ inService 0x57 (framed .write 0x57 (converting 31)) ∧
    inService 0x58 (framed .write 0x58 ready) ∧ inService 0x59 (framed .write 0x59 ready) ∧
    inService 0x5A (framed .write 0x5A ready) ∧ inService 0x6B (framed .write 0x6B ready) ∧
    (converting 31).rq.watermark ≤ (converting 31).rq.records.length ∧
    1 ≤ (1 : Byte).toNat ∧ (32 : Byte).toNat ≤ 32 ∧ (0xFE : Byte) &&& 3 = 2 := by
  refine ⟨inService_framed rfl, inService_framed rfl, inService_framed rfl, inService_framed rfl,
    inService_framed rfl, inService_framed rfl, ?_⟩
  decide

theorem witness_PlainWrites :
    inService 0x03 (framed .write 0x03 ready) ∧ inService 0x62 (framed .write 0x62 ready) ∧
    (63 : Byte).toNat = (63 : Fin 64).val ∧ 64 ≤ (64 : Byte).toNat ∧
    inService 0x7F (framed .write 0x7F ready) ∧ 0x6C ≤ (0x7F : Addr).toNat ∧
    (0x5E : Addr).toNat ≤ 0x61 :=
  ⟨inService_framed rfl, inService_framed rfl, rfl, by decide, inService_framed rfl, by decide,
    by decide⟩

/-- A state with a conversion in hand whose next command ends that conversion. -/
def ending : State := { converting 30 with pending := [.cyclesGateClose] }

theorem witness_StoreLawsKept :
    step ending = .next (after (step ending)) ∧ Memory.wf ending.nvs.cells = true ∧
    engineLaw ending ∧ roadLaw ending :=
  ⟨rfl, rfl, converting_engineLaw, converting_roadLaw⟩

theorem witness_BoundsKept : step ending = .next (after (step ending)) ∧ boundsLaw ending :=
  ⟨rfl, converting_boundsLaw⟩

theorem witness_UnitLawsKept :
    step ending = .next (after (step ending)) ∧ planLaw ending ∧ curvesLaw ending ∧
    legLaw ending ∧ watermarkLaw ending ∧ timerLaw ending ∧ portLaw ending ∧
    timerLaw { ending with sc.timer := some ⟨1, 15, 0⟩ } ∧
    portLaw { ending with port := { frame := .data .mode0 .read 0, sdo := some 1 } } :=
  ⟨rfl, converting_planLaw, converting_curvesLaw, converting_legLaw, converting_watermarkLaw,
    fun t h => absurd h (by simp [ending, converting, heat, ready, State.reset]),
    ⟨fun h => absurd rfl h, fun h => absurd h (by decide)⟩,
    fun t h => (Option.some.inj h) ▸ (by decide),
    ⟨fun _ => ⟨_, _, rfl⟩, fun h => absurd h (by decide)⟩⟩

theorem witness_ScanLawKept : step ending = .next (after (step ending)) ∧ scanLaw ending :=
  ⟨rfl, converting_scanLaw⟩

theorem witness_HoldLosesNothing :
    step ending = .next (after (step ending)) ∧ scanLaw ending ∧ holdLaw ending ∧
    ending.plan.config.policy = .hold :=
  ⟨rfl, converting_scanLaw, converting_holdLaw, by decide⟩

theorem witness_ArmedPlanStands :
    step ending = .next (after (step ending)) ∧ scanLaw ending ∧ armedLaw ending ∧
    roadLaw ending ∧ planLock ending ∧ ending.pending = .cyclesGateClose :: [] ∧
    Instr.cyclesGateClose ≠ .fullReset :=
  ⟨rfl, converting_scanLaw, converting_armedLaw, converting_roadLaw, .inl (by decide), rfl, by decide⟩

end Sys2Proof.Tests
end

section
/-! PROOFS. Plan validation and the committing writes of the scan plan (chapter 2). -/

namespace Sys2Proof.Proofs

open Sys2Proof.Machine

/-! ## The first step index with a property -/

theorem stepIndices_eq_finRange : stepIndices = List.finRange 16 := by decide

/-- No step index is found exactly when none has the property. -/
theorem find_stepIndices_eq_none {q : Fin 16 → Bool} :
    stepIndices.find? q = none ↔ ∀ j, q j = false := by
  simp [stepIndices_eq_finRange, List.find?_eq_none]

/-- The step index found is the lowest one with the property. -/
theorem find_stepIndices_eq_some {q : Fin 16 → Bool} {j : Fin 16} :
    stepIndices.find? q = some j ↔ q j = true ∧ ∀ k, k < j → q k = false := by
  rw [stepIndices_eq_finRange, List.find?_eq_some_iff_getElem]
  constructor
  · rintro ⟨hj, i, hi, rfl, hbelow⟩
    refine ⟨hj, fun k hk => ?_⟩
    simpa using hbelow k.val (by simpa [Fin.lt_def] using hk)
  · rintro ⟨hj, hbelow⟩
    refine ⟨hj, j.val, by simp, by simp, fun i hi => ?_⟩
    simpa using hbelow ⟨i, by omega⟩ hi

/-! ## Plan validation (R38) -/

/-- The model's check of an entry is Table 2-4. -/
theorem entryPasses_iff (p : ScanPlan) (curves : Vector Curve 4) (j : Fin 16) :
    entryPasses p curves p.entries[j] = true ↔ passesChecks p curves j := by
  unfold entryPasses passesChecks
  cases p.entries[j].pair <;> cases p.entries[j].curve <;> simp

/-- Entry `j` is enabled and fails a check of Table 2-4. -/
def entryFails (s : State) (j : Fin 16) : Bool :=
  s.plan.entries[j].enabled && !entryPasses s.plan s.rcu.curves s.plan.entries[j]

theorem entryFails_eq_true (s : State) (j : Fin 16) :
    entryFails s j = true ↔
      s.plan.entries[j].enabled = true ∧ ¬ passesChecks s.plan s.rcu.curves j := by
  simp only [entryFails, Bool.and_eq_true, Bool.not_eq_true', ← entryPasses_iff,
    Bool.not_eq_true]

theorem entryFails_eq_false (s : State) (j : Fin 16) :
    entryFails s j = false ↔
      (s.plan.entries[j].enabled = true → passesChecks s.plan s.rcu.curves j) := by
  rw [← Bool.not_eq_true, entryFails_eq_true, not_and, not_not]

theorem firstEnabled_eq_none (p : ScanPlan) :
    firstEnabled p = none ↔ ∀ j : Fin 16, p.entries[j].enabled = false :=
  find_stepIndices_eq_none

/-- A plan with no entry enabled has the detail 255. -/
theorem validatePlan_of_none_enabled {s : State}
    (h : ∀ j : Fin 16, s.plan.entries[j].enabled = false) : validatePlan s = some 255 := by
  simp [validatePlan, (firstEnabled_eq_none s.plan).2 h]

/-- A plan with an entry enabled is judged by its first failing entry. -/
theorem validatePlan_of_enabled {s : State} {j : Fin 16}
    (h : s.plan.entries[j].enabled = true) :
    validatePlan s = (stepIndices.find? (entryFails s)).map fun j => BitVec.ofNat 8 j.val := by
  have hfirst : firstEnabled s.plan ≠ none := fun hn =>
    Bool.eq_false_iff.1 ((firstEnabled_eq_none s.plan).1 hn j) h
  rw [validatePlan, if_neg (by simpa using hfirst)]
  rfl

theorem validatePlan_eq_none (s : State) :
    validatePlan s = none ↔
      (∃ j : Fin 16, s.plan.entries[j].enabled = true) ∧
        ∀ j : Fin 16, s.plan.entries[j].enabled = true →
          passesChecks s.plan s.rcu.curves j := by
  by_cases hen : ∃ j : Fin 16, s.plan.entries[j].enabled = true
  · obtain ⟨j, hj⟩ := hen
    rw [validatePlan_of_enabled hj, Option.map_eq_none_iff, find_stepIndices_eq_none]
    simp only [entryFails_eq_false]
    exact ⟨fun hall => ⟨⟨j, hj⟩, hall⟩, fun ⟨_, hall⟩ => hall⟩
  · have hnone : validatePlan s = some 255 :=
      validatePlan_of_none_enabled fun j => Bool.eq_false_of_not_eq_true fun hj => hen ⟨j, hj⟩
    exact iff_of_false (by simp [hnone]) fun ⟨hsome, _⟩ => hen hsome

/-- Settles O4: the search over the step indices finds the lowest enabled entry that fails. -/
theorem planValidation : Obligations.PlanValidation := by
  intro s
  refine ⟨validatePlan_eq_none s, validatePlan_of_none_enabled, fun j hen hfail hbelow => ?_⟩
  have hfound : stepIndices.find? (entryFails s) = some j :=
    find_stepIndices_eq_some.2
      ⟨(entryFails_eq_true s j).2 ⟨hen, hfail⟩,
        fun k hk => (entryFails_eq_false s k).2 (hbelow k hk)⟩
  rw [validatePlan_of_enabled hen, hfound, Option.map_some]

/-! ## What a committing write rests on -/

/-- A write byte that the frame brings to a part in service reaches its block. -/
theorem bringsWrite_of_inService {a : Addr} {s : State} (h : inService a s) :
    bringsWrite a s = true := by
  obtain ⟨hrun, hframe⟩ := h
  exact (bringsWrite_iff a s).2 ⟨by simp [hrun], hframe⟩

theorem unlessBooting_of_running {s : State} (act : State → State) (h : s.power = .running) :
    unlessBooting act s = act s := by
  simp [unlessBooting, isBooting, h]

/-- A write that only BOOTING ignores acts on a part in service. -/
theorem busWrite_of_inService {a : Addr} {s : State} (act : State → State)
    (h : inService a s) : busWrite a (unlessBooting act) s = portWrote a (act s) := by
  rw [busWrite_brought _ (bringsWrite_of_inService h), unlessBooting_of_running _ h.1]

theorem planSaveClaim_iff (s : State) :
    planSaveClaim s = true ↔ ∃ h, s.nvs.road = some h ∧ h.command = .saveProfile := by
  unfold planSaveClaim
  cases s.nvs.road <;> simp

/-- The model's plan lock is that of R35. -/
theorem planLocked_iff (s : State) : planLocked s = true ↔ planLock s := by
  simp [planLocked, planLock, isStopped, planSaveClaim_iff]

theorem measReply_ok (l : MeasLast) (d : Byte) (s : State) :
    measReply l .ok d s = { s with sc.status := { last := l, outcome := .ok, detail := d } } :=
  rfl

/-- A refusal's status record and its CMD_REJECT touch different state, so either may be written
first. -/
theorem measReply_refused {o : CmdOutcome} (ho : o ≠ .ok) (l : MeasLast) (d : Byte) (s : State) :
    measReply l o d s =
      { raise .cmdReject s with sc.status := { last := l, outcome := o, detail := d } } := by
  simp [measReply, raiseIf, ho, raise]

theorem asStep_eq_none {b : Byte} (h : 16 ≤ b.toNat) : asStep b = none := by
  simp [asStep, Nat.not_lt.2 h]

theorem asStep_eq_some {b : Byte} {j : Fin 16} (h : b.toNat = j.val) : asStep b = some j := by
  simp [asStep, h]

/-! ## The step write (R30) -/

/-- The state as the step write judges it: the last image byte has been stored. -/
def stepStored (v : Byte) (s : State) : State :=
  { s with plan.stepStage := s.plan.stepStage.set 12 v }

theorem exec_stepWrite {s : State} (v : Byte) (h : inService 0x19 s) :
    exec (.stepWrite v) s = .next (portWrote 0x19 (commitStep (stepStored v s))) :=
  congrArg Host.Outcome.next (busWrite_of_inService _ h)

theorem planLocked_stepStored (v : Byte) (s : State) :
    planLocked (stepStored v s) = planLocked s := rfl

theorem commitStep_locked {s : State} (h : planLocked s = true) :
    commitStep s = measReply .stepWrite .locked s.plan.stepIndex s := by
  rw [commitStep, if_pos h]

theorem commitStep_badIndex {s : State} (h : ¬ planLocked s = true)
    (hidx : asStep s.plan.stepIndex = none) :
    commitStep s = measReply .stepWrite .range s.plan.stepIndex s := by
  simp only [commitStep, if_neg h, hidx]

theorem commitStep_badImage {s : State} {j : Fin 16} (h : ¬ planLocked s = true)
    (hidx : asStep s.plan.stepIndex = some j) (himg : decodeStep j s.plan.stepStage = none) :
    commitStep s = measReply .stepWrite .range s.plan.stepIndex s := by
  simp only [commitStep, if_neg h, hidx, himg]

theorem commitStep_accepted {s : State} {j : Fin 16} {e : StepEntry} (h : ¬ planLocked s = true)
    (hidx : asStep s.plan.stepIndex = some j) (himg : decodeStep j s.plan.stepStage = some e) :
    commitStep s =
      measReply .stepWrite .ok s.plan.stepIndex
        { s with plan.entries := s.plan.entries.set j e } := by
  simp only [commitStep, if_neg h, hidx, himg]

/-! ## The configuration write (R33) -/

/-- The state as the configuration write judges it: the fifth byte has been stored. -/
def configStored (v : Byte) (s : State) : State :=
  { s with plan.configStage := s.plan.configStage.set 4 v }

theorem exec_configWrite {s : State} (v : Byte) (h : inService 0x2C s) :
    exec (.configWrite v) s = .next (portWrote 0x2C (commitConfig (configStored v s))) :=
  congrArg Host.Outcome.next (busWrite_of_inService _ h)

theorem planLocked_configStored (v : Byte) (s : State) :
    planLocked (configStored v s) = planLocked s := rfl

/-- A refused configuration write leaves nothing of the byte that made it. -/
theorem reloadConfig_configStored (v : Byte) (s : State) :
    reloadConfig (configStored v s) = reloadConfig s := rfl

theorem commitConfig_locked {s : State} (h : planLocked s = true) :
    commitConfig s = measReply .configWrite .locked 16 (reloadConfig s) := by
  rw [commitConfig, if_pos h]

theorem commitConfig_badImage {s : State} (h : ¬ planLocked s = true)
    (himg : decodeConfig s.plan.configStage = none) :
    commitConfig s = measReply .configWrite .range 16 (reloadConfig s) := by
  simp only [commitConfig, if_neg h, himg]

theorem commitConfig_accepted {s : State} {g : ScanConfig} (h : ¬ planLocked s = true)
    (himg : decodeConfig s.plan.configStage = some g) :
    commitConfig s = measReply .configWrite .ok 16 { s with plan.config := g } := by
  simp only [commitConfig, if_neg h, himg]

/-- Settles O32: each decision is the commit's case of that name, on the state with the last byte
stored. -/
theorem planWrites : Obligations.PlanWrites := by
  intro s v image step five config reloaded
  refine ⟨fun hserv => ?_, fun hserv => ?_⟩
  · rw [exec_stepWrite v hserv]
    simp only [← planLocked_iff, ← planLocked_stepStored v s]
    refine ⟨fun hlock => ?_, fun hopen hidx => ?_,
      fun j hopen hidx => ⟨fun himg => ?_, fun e himg => ?_⟩⟩
    · rw [commitStep_locked hlock, measReply_refused (by decide)]; rfl
    · rw [commitStep_badIndex hopen (asStep_eq_none hidx), measReply_refused (by decide)]; rfl
    · rw [commitStep_badImage hopen (asStep_eq_some hidx) himg, measReply_refused (by decide)]; rfl
    · rw [commitStep_accepted hopen (asStep_eq_some hidx) himg, measReply_ok]; rfl
  · rw [exec_configWrite v hserv]
    simp only [← planLocked_iff, ← planLocked_configStored v s]
    refine ⟨fun hlock => ?_, fun hopen => ⟨fun himg => ?_, fun g himg => ?_⟩⟩
    · rw [commitConfig_locked hlock, measReply_refused (by decide),
        reloadConfig_configStored]
      rfl
    · rw [commitConfig_badImage hopen himg, measReply_refused (by decide),
        reloadConfig_configStored]
      rfl
    · rw [commitConfig_accepted hopen himg, measReply_ok]; rfl

end Sys2Proof.Proofs
end

section
/-! PROOFS. The end of a scan and the path of a result (chapter 3, with the archive's flush of
chapter 9). -/

namespace Sys2Proof.Proofs

open Sys2Proof.Machine

/-! ## The scan-end signal (R152, R153) -/

theorem commitFilling_eq (s : State) : commitFilling s = fillingCommitted s := by
  unfold commitFilling claimCommitted fillingCommitted
  by_cases hclaim : isErasing s || s.au.full
  · have hclaim' : s.au.erase ≠ none ∨ s.au.full = true := by
      simpa [isErasing, Option.isSome_iff_ne_none] using hclaim
    simp only [if_pos hclaim']
    exact if_pos hclaim
  · have hclaim' : ¬ (s.au.erase ≠ none ∨ s.au.full = true) := by
      simpa [isErasing, Option.isSome_iff_ne_none] using hclaim
    simp only [if_neg hclaim']
    exact if_neg hclaim

theorem signalScanEnd_off {s : State} (h : s.au.flushAtEnd = false) : signalScanEnd s = s := by
  simp [signalScanEnd, h]

theorem signalScanEnd_empty {s : State} (h : s.au.filling = []) : signalScanEnd s = s := by
  simp [signalScanEnd, flushFilling, h]

theorem signalScanEnd_commits {s : State} (hopt : s.au.flushAtEnd = true)
    (hsome : s.au.filling ≠ []) (hfree : s.au.committed = none) :
    signalScanEnd s = fillingCommitted s := by
  simp [signalScanEnd, flushFilling, hopt, hsome, hfree, commitFilling_eq]

theorem signalScanEnd_waits {s : State} (hopt : s.au.flushAtEnd = true)
    (hsome : s.au.filling ≠ []) (hfull : s.au.committed ≠ none) :
    signalScanEnd s = { s with au.flushPending := true } := by
  simp [signalScanEnd, flushFilling, hopt, hsome, hfull]

/-- The signal reads and changes the Archive Unit and the store alone. -/
theorem signalScanEnd_local {s t : State} (hau : t.au = s.au) (hnvs : t.nvs = s.nvs) :
    signalScanEnd t = { t with au := (signalScanEnd s).au, nvs := (signalScanEnd s).nvs } := by
  by_cases hopt : s.au.flushAtEnd = true
  · by_cases hsome : s.au.filling = []
    · rw [signalScanEnd_empty hsome, signalScanEnd_empty (hau ▸ hsome), ← hau, ← hnvs]
    · by_cases hfree : s.au.committed = none
      · rw [signalScanEnd_commits hopt hsome hfree,
          signalScanEnd_commits (hau ▸ hopt) (hau ▸ hsome) (hau ▸ hfree)]
        simp only [fillingCommitted, hau, hnvs]
      · rw [signalScanEnd_waits hopt hsome hfree,
          signalScanEnd_waits (hau ▸ hopt) (hau ▸ hsome) (hau ▸ hfree)]
        simp only [hau, ← hnvs]
  · have hoff : s.au.flushAtEnd = false := Bool.eq_false_of_not_eq_true hopt
    rw [signalScanEnd_off hoff, signalScanEnd_off (hau ▸ hoff), ← hau, ← hnvs]

/-! ## The close of a scan (R60 steps 1 to 4, R62 steps 2 to 5) -/

/-- The watermark condition reads the queue alone. -/
theorem watermarkHolds_local {s t : State} (hrq : t.rq = s.rq) :
    watermarkHolds t = watermarkHolds s := by
  unfold watermarkHolds level
  rw [hrq]

/-- An offer reads and changes the queue and the events alone. -/
theorem offerRecord_local (r : Record) {s t : State} (hrq : t.rq = s.rq) (hev : t.ev = s.ev) :
    offerRecord r t = { t with rq := (offerRecord r s).rq, ev := (offerRecord r s).ev } := by
  have hlevel : level t = level s := by rw [level, level, hrq]
  by_cases hroom : level s < Config.queueCapacity
  · have hmark := watermarkHolds_local
      (s := { s with
        rq.records := s.rq.records ++ [withGap s.rq.gapPending r]
        rq.gapPending := false })
      (t := { t with
        rq.records := t.rq.records ++ [withGap t.rq.gapPending r]
        rq.gapPending := false })
      (by rw [hrq])
    simp only [offerRecord, acceptRecord, watermarkEval, raiseIf, hlevel, hroom, hmark, if_true]
    split <;> simp [raise, hrq, hev]
  · simp [offerRecord, discardRecord, raise, hlevel, hroom, hrq, hev]

/-- The SCAN_END record of a scan that ends with status `e`. -/
def scanEndRecord (e : EndStatus) (s : State) : Record :=
  .scanEnd false s.sc.late s.sc.scanNumber e s.sc.converted s.sc.faulted s.tb.count

/-- The close acts on the queue and the events by the offer, and on the archive and the store by the
signal; neither reads what the other writes. -/
theorem closeScan_eq (e : EndStatus) (s : State) :
    closeScan e s =
      { s with
        rq := (offerRecord (scanEndRecord e s) s).rq
        ev := (raise .scanEnd (offerRecord (scanEndRecord e s) s)).ev
        au := (arbitrate (signalScanEnd s)).au
        nvs := (arbitrate (signalScanEnd s)).nvs } := by
  have hsignal := signalScanEnd_local (s := s)
    (t := raise .scanEnd (offerRecord (scanEndRecord e s) s)) (by simp) (by simp)
  have hclose : closeScan e s =
      arbitrate (signalScanEnd (raise .scanEnd (offerRecord (scanEndRecord e s) s))) := rfl
  rw [hclose, hsignal, offerRecord_local (scanEndRecord e s) (s := s) rfl rfl]
  rfl

/-- The close of a scan does not read the Conversion Unit. -/
theorem closeScan_abandon (e : EndStatus) (s : State) :
    closeScan e (abandon s) = { closeScan e s with cu := abandonUnit s.cu } := by
  have hoffer := offerRecord_local (scanEndRecord e s) (s := s) (t := abandon s) rfl rfl
  have hsignal := signalScanEnd_local (s := s) (t := abandon s) rfl rfl
  have hrecord : scanEndRecord e (abandon s) = scanEndRecord e s := rfl
  rw [closeScan_eq, closeScan_eq, hsignal, hrecord, hoffer]
  rfl

/-! ## The COMPLETE end (R60) -/

theorem afterScan_oneShot {t : State} (h : t.plan.config.repeatMode = .oneShot) :
    afterScan t = enterStopped t := by
  simp only [afterScan, h]

theorem afterScan_latched {t : State} (h : t.plan.config.repeatMode = .repeating)
    (hlatch : t.sc.pending = true) :
    afterScan t = startScan true { t with sc.pending := false } := by
  simp only [afterScan, h, hlatch, if_true]

theorem afterScan_immediate {t : State} (h : t.plan.config.repeatMode = .repeating)
    (hlatch : t.sc.pending = false) (himm : t.plan.config.immediate = true) :
    afterScan t = startScan false t := by
  simp [afterScan, h, hlatch, himm]

theorem afterScan_rearms {t : State} (h : t.plan.config.repeatMode = .repeating)
    (hlatch : t.sc.pending = false) (himm : t.plan.config.immediate = false) :
    afterScan t = { t with sc.current := none, sc.state := .armed } := by
  simp [afterScan, h, hlatch, himm]

/-- Settles O44: the close is followed by the case of R60's step 5; the signal's cases are those of
a flush. -/
theorem scanEnds : Obligations.ScanEnds := by
  intro s offered told closed
  have hend : endScan s = afterScan closed := by
    have hclosed : { closeScan .complete s with sc.current := none } = closed := by
      rw [closeScan_eq]
      rfl
    rw [← hclosed]
    rfl
  rw [hend]
  exact ⟨afterScan_oneShot (t := closed),
    fun hmode => ⟨afterScan_latched (t := closed) hmode, afterScan_immediate (t := closed) hmode,
      afterScan_rearms (t := closed) hmode⟩,
    signalScanEnd_off,
    fun hopt => ⟨signalScanEnd_empty, signalScanEnd_commits hopt, signalScanEnd_waits hopt⟩⟩

/-! ## The next step of a scan (R54, R55, R57 step 7) -/

theorem spaceToStart_iff (s : State) : spaceToStart s = true ↔ mayStart s := by
  simp only [spaceToStart, Bool.or_eq_true, decide_eq_true_eq]
  rfl

theorem nextEnabled_eq_some {p : ScanPlan} {j k : Fin 16} (h : isNextEnabled p j k) :
    nextEnabled p j = some k := by
  obtain ⟨habove, hen, hbetween⟩ := h
  refine find_stepIndices_eq_some.2 ⟨by simpa [habove] using hen, fun i hi => ?_⟩
  simpa using fun hj => hbetween i hj hi

theorem nextEnabled_eq_none {p : ScanPlan} {j : Fin 16}
    (h : ∀ k : Fin 16, j < k → p.entries[k].enabled = false) : nextEnabled p j = none :=
  find_stepIndices_eq_none.2 fun k => by simpa using h k

theorem walkOn_starts {s : State} {j k : Fin 16} (h : isNextEnabled s.plan j k)
    (hspace : mayStart s) : walkOn j s = startStep k s := by
  simp only [walkOn, nextEnabled_eq_some h, (spaceToStart_iff s).2 hspace, if_true]

theorem walkOn_waits {s : State} {j k : Fin 16} (h : isNextEnabled s.plan j k)
    (hspace : ¬ mayStart s) :
    walkOn j s = { s with sc.current := some k, sc.state := .running .waitSpace true } := by
  simp only [walkOn, nextEnabled_eq_some h, if_neg (mt (spaceToStart_iff s).1 hspace)]

theorem walkOn_ends {s : State} {j : Fin 16}
    (h : ∀ k : Fin 16, j < k → s.plan.entries[k].enabled = false) :
    walkOn j s = endScan s := by
  simp only [walkOn, nextEnabled_eq_none h]

/-! ## The path of a result (R57) -/

/-- A result's tally and its slot. -/
theorem writeSlot_tally (j : Fin 16) (r : ConvResult) (s : State) :
    writeSlot j r (tally r s) =
      { s with
        sc.converted := if r.outcome = .good then s.sc.converted + 1 else s.sc.converted
        sc.faulted := if r.outcome = .good then s.sc.faulted else s.sc.faulted + 1
        rcu.slots := s.rcu.slots.set j
          { valid := decide (r.outcome = .good), clock := r.clock, osc := r.osc } } := by
  by_cases hgood : r.outcome = .good <;> simp [writeSlot, tally, hgood]

/-- The report policy of R94 as a condition. -/
theorem offers_iff (p : ReportPolicy) (changed : Bool) :
    offers p changed = true ↔ p = .all ∨ (p = .limitOnly ∧ changed = true) := by
  cases p <;> simp [offers]

theorem takeResult_eq {s : State} {j : Fin 16} (r : ConvResult) (h : s.sc.current = some j) :
    takeResult r s = walkOn j (passResult j r s) := by
  simp only [takeResult, h]

/-- Settles O43: the six steps of `passResult` are those of R57, and `walkOn` is the seventh. -/
theorem resultTaken : Obligations.ResultTaken := by
  intro s r j hcur e s1 a w body s2 s3 s4
  have hs1 : writeSlot j r (tally r s) = s1 := writeSlot_tally j r s
  have hbody : resultBody j r a w.2.state w.1 = body := by
    simp [resultBody, body, w, s1]
  have hs2 : (if offers e.report w.2.changed then
      offerRecord (.measurement false body r.clock r.osc) w.1 else w.1) = s2 :=
    if_congr (offers_iff _ _) rfl rfl
  have hs3 : raiseIf (decide (r.outcome ≠ .good)) .convFault s2 = s3 := by
    by_cases hgood : r.outcome = .good <;> simp [raiseIf, s3, hgood]
  have hpass : passResult j r s = s4 := by
    change _ = if e.archive = true then arbitrate (offerArchive body s3) else s3
    rw [← hs3, ← hs2, ← hbody]
    dsimp only [passResult]
    rw [hs1]
  have hplan : s4.plan = s.plan := by rw [← hpass]; simp
  rw [takeResult_eq r hcur, hpass, ← hplan]
  exact ⟨fun k hk => ⟨walkOn_starts hk, walkOn_waits hk⟩, walkOn_ends⟩

end Sys2Proof.Proofs
end

section
/-! PROOFS. The measurement commands ARM, TRIGGER, STOP and RESET SCAN, and the command bytes that are
refused whatever command they name (chapter 3). -/

namespace Sys2Proof.Proofs

open Sys2Proof.Machine

/-! ## A command byte in service -/

theorem isBooting_of_running {s : State} (h : s.power = .running) : isBooting s = false := by
  simp [isBooting, h]

/-- Outside BOOTING a measurement command byte is decided by its command's own rule. -/
theorem busWrite_measCommand {s : State} (l : MeasLast) (act : State → State)
    (h : inService 0x04 s) : busWrite 0x04 (measCommand l act) s = portWrote 0x04 (act s) := by
  rw [busWrite_brought _ (bringsWrite_of_inService h)]
  simp [measCommand, isBooting_of_running h.1]

/-- The row of the table that writes a measurement command's code. -/
def measInstr : MeasCommand → Instr
  | .arm => .arm
  | .stop => .stop
  | .trigger => .trigger
  | .resetScan => .resetScan
  | .pop => .pop
  | .clearQueue => .clearQueue
  | .commitCurve => .commitCurve

theorem exec_measInstr {s : State} (c : MeasCommand) (h : inService 0x04 s) :
    exec (measInstr c) s = .next (portWrote 0x04 (doMeas c s)) := by
  rw [← busWrite_measCommand (.command c) (doMeas c) h]
  cases c <;> rfl

/-! ## Status records -/

/-- A refusal's CMD_REJECT is raised after its status record. -/
theorem measReply_rejects {o : CmdOutcome} (ho : o ≠ .ok) (l : MeasLast) (d : Byte) (s : State) :
    measReply l o d s =
      raise .cmdReject { s with sc.status := { last := l, outcome := o, detail := d } } := by
  simp [measReply, raiseIf, ho]

theorem storeReply_rejects {o : CmdOutcome} (ho : o ≠ .ok) (l : StoreLast) (d : Byte)
    (s : State) :
    storeReply l o d s =
      raise .cmdReject
        { s with nvs.status := { phase := .idle, last := l, outcome := o, detail := d } } := by
  simp [storeReply, storeStatus, raiseIf, ho]

/-! ## Triggers (R50, R51) -/

theorem takeTrigger_stopped {s : State} (h : s.sc.state = .stopped) : takeTrigger s = s := by
  simp only [takeTrigger, h]

theorem takeTrigger_armed {s : State} (h : s.sc.state = .armed) :
    takeTrigger s = startScan false s := by
  simp only [takeTrigger, h]

theorem takeTrigger_latches {s : State} {sub : SubState} {b : Bool}
    (h : s.sc.state = .running sub b) (hclear : s.sc.pending = false) :
    takeTrigger s = { s with sc.pending := true } := by
  simp [takeTrigger, h, hclear]

theorem takeTrigger_overruns {s : State} {sub : SubState} {b : Bool}
    (h : s.sc.state = .running sub b) (hset : s.sc.pending = true) :
    takeTrigger s = raise .overrun s := by
  simp [takeTrigger, h, hset]

theorem doTrigger_stopped {s : State} (h : s.sc.state = .stopped) :
    doTrigger s = measReply (.command .trigger) .state 0 s := by
  simp only [doTrigger, h]

theorem doTrigger_armed {s : State} (h : s.sc.state = .armed) :
    doTrigger s = measReply (.command .trigger) .ok 0 (takeTrigger s) := by
  simp only [doTrigger, h]

/-- The answer of TRIGGER in RUNNING tells whether the latch took the trigger. -/
theorem doTrigger_running {s : State} {sub : SubState} {b : Bool}
    (h : s.sc.state = .running sub b) :
    doTrigger s =
      measReply (.command .trigger) .ok (if s.sc.pending then 2 else 1) (takeTrigger s) := by
  simp only [doTrigger, h]

/-- Settles O6: the answers of TRIGGER are the cases of the trigger rule with their details. -/
theorem triggerRules : Obligations.TriggerRules := by
  refine ⟨fun s => ⟨takeTrigger_stopped, takeTrigger_armed, fun _ _ => takeTrigger_latches,
    fun _ _ => takeTrigger_overruns⟩, fun s hserv => ?_⟩
  have hexec : exec .trigger s = .next (portWrote 0x04 (doTrigger s)) :=
    exec_measInstr .trigger hserv
  rw [hexec]
  refine ⟨fun hstop => ?_, fun harm => ?_, fun sub b hrun hclear => ?_,
    fun sub b hrun hset => ?_⟩
  · rw [doTrigger_stopped hstop, measReply_refused (by decide)]
  · rw [doTrigger_armed harm, takeTrigger_armed harm, measReply_ok]
  · rw [doTrigger_running hrun, takeTrigger_latches hrun hclear, hclear, measReply_ok]
    rfl
  · rw [doTrigger_running hrun, takeTrigger_overruns hrun hset, hset, measReply_ok]
    rfl

/-! ## ARM (R47, R48) -/

theorem isStopped_iff (s : State) : isStopped s = true ↔ s.sc.state = .stopped := by
  simp [isStopped]

theorem doArm_refused {s : State} (h : s.sc.state ≠ .stopped) :
    doArm s = measReply (.command .arm) .state 0 s := by
  rw [doArm, if_neg (by rwa [isStopped_iff])]

theorem doArm_invalid {s : State} {d : Byte} (h : s.sc.state = .stopped)
    (hplan : validatePlan s = some d) :
    doArm s = measReply (.command .arm) .invalid d s := by
  simp only [doArm, (isStopped_iff s).2 h, hplan, if_true]

theorem doArm_passed {s : State} (h : s.sc.state = .stopped) (hplan : validatePlan s = none) :
    doArm s = immediateTrigger (measReply (.command .arm) .ok 0 (enterArmed s)) := by
  simp only [doArm, (isStopped_iff s).2 h, hplan, if_true]

/-- Settles O5: the three answers of ARM. -/
theorem armCommand : Obligations.ArmCommand := by
  have hexec {s : State} (hserv : inService 0x04 s) :
      exec .arm s = .next (portWrote 0x04 (doArm s)) := exec_measInstr .arm hserv
  refine ⟨fun s hserv hstop => ⟨fun d hplan => ?_, fun hplan => ?_⟩,
    fun s hserv hrun => ?_⟩
  · rw [hexec hserv, doArm_invalid hstop hplan, measReply_rejects (by decide)]
  · rw [hexec hserv, doArm_passed hstop hplan, measReply_ok]
    rfl
  · rw [hexec hserv, doArm_refused hrun, measReply_rejects (by decide)]

/-! ## STOP (R62, with R13) -/

theorem abandonUnit_converting {u : ConversionUnit} (h : u.state ≠ .off) :
    abandonUnit u =
      { u with state := .off, energized := none, settleCounter := 0, clockCounter := 0,
               oscCounter := 0 } := by
  rw [abandonUnit, if_neg h]

theorem abandonUnit_off {u : ConversionUnit} (h : u.state = .off) : abandonUnit u = u := by
  rw [abandonUnit, if_pos h]

theorem doStop_stopped {s : State} (h : s.sc.state = .stopped) :
    doStop s = measReply (.command .stop) .ok 0 s := by
  simp only [doStop, h]

theorem doStop_armed {s : State} (h : s.sc.state = .armed) :
    doStop s = measReply (.command .stop) .ok 0 (enterStopped s) := by
  simp only [doStop, h]

theorem doStop_unbegun {s : State} {sub : SubState} (h : s.sc.state = .running sub false) :
    doStop s =
      measReply (.command .stop) .ok 0 { enterStopped s with sc.fromLatch := false } := by
  simp only [doStop, h]

theorem doStop_begun {s : State} {sub : SubState} (h : s.sc.state = .running sub true) :
    doStop s =
      measReply (.command .stop) .ok 0 (enterStopped (closeScan .stopped (abandon s))) := by
  simp only [doStop, h]

/-- Settles O8: of the four states only a begun scan has something to close, and its close does not
read the conversion that STOP abandons. -/
theorem stopCommand : Obligations.StopCommand := by
  refine ⟨fun s hserv => ?_, fun u => ⟨abandonUnit_converting, abandonUnit_off⟩⟩
  have hexec : exec .stop s = .next (portWrote 0x04 (doStop s)) := exec_measInstr .stop hserv
  intro ended
  rw [hexec]
  refine ⟨fun hstop => ?_, fun harm => ?_, fun sub hunbegun => ?_, fun sub hbegun => ?_⟩
  · rw [doStop_stopped hstop, measReply_ok]
  · rw [doStop_armed harm, measReply_ok]
    rfl
  · rw [doStop_unbegun hunbegun, measReply_ok]
    rfl
  · intro offered told
    rw [doStop_begun hbegun, closeScan_abandon, closeScan_eq, measReply_ok]
    rfl

/-! ## RESET SCAN (R64) -/

/-- An emptied queue has level 0, below every watermark. -/
theorem emptyQueue_eq {s : State} (h : 1 ≤ s.rq.watermark) :
    emptyQueue s = { s with rq.records := [], rq.gapPending := false } := by
  have hbelow : watermarkHolds { s with rq.records := [], rq.gapPending := false } = false := by
    simpa [watermarkHolds, level] using Nat.one_le_iff_ne_zero.1 h
  simp [emptyQueue, watermarkEval, raiseIf, hbelow]

/-- Settles O9: the parts of RESET SCAN set different fields, and the emptied queue raises
nothing. -/
theorem resetScanCommand : Obligations.ResetScanCommand := by
  intro s hserv hmark
  have hexec : exec .resetScan s = .next (portWrote 0x04 (doResetScan s)) :=
    exec_measInstr .resetScan hserv
  have hmark' : 1 ≤ (enterStopped (abandon s)).rq.watermark := by simpa using hmark
  rw [hexec, doResetScan, emptyQueue_eq hmark', measReply_ok]
  rfl

/-! ## Codes that name no command, and a store already at work (R46, R142) -/

/-- A code of no command reaches the answer UNKNOWN, outside BOOTING. -/
theorem exec_unknownMeasurementCommand {s : State} {code : Byte}
    (hwf : wellFormed (.unknownMeasurementCommand code) = true) (h : inService 0x04 s) :
    exec (.unknownMeasurementCommand code) s =
      .next (portWrote 0x04 (measReply (.raw code) .unknown 0 s)) := by
  have hcode : decodeMeas code = none := Laws.FieldsInRange.unknownMeasurementCommand code hwf
  have hwrite : writeMeasCommand code =
      measCommand (.raw code) (measReply (.raw code) .unknown 0) := by
    funext s; simp only [writeMeasCommand, hcode]
  rw [← busWrite_measCommand (.raw code) _ h, ← hwrite]
  rfl

/-- Outside BOOTING a store command byte is decided by its command's own rule when no store command
is in progress. -/
theorem busWrite_storeCommand_idle {s : State} (l : StoreLast) (act : State → State)
    (h : inService 0x5D s) (hidle : s.nvs.status.phase = .idle) :
    busWrite 0x5D (storeCommand l act) s = portWrote 0x5D (act s) := by
  rw [busWrite_brought _ (bringsWrite_of_inService h)]
  simp [storeCommand, isBooting_of_running h.1, storeBusy, hidle]

/-- A store command byte meets a store command in progress with CMD_REJECT alone. -/
theorem busWrite_storeCommand_busy {s : State} (l : StoreLast) (act : State → State)
    (h : inService 0x5D s) (hbusy : s.nvs.status.phase = .inProgress) :
    busWrite 0x5D (storeCommand l act) s = portWrote 0x5D (raise .cmdReject s) := by
  rw [busWrite_brought _ (bringsWrite_of_inService h)]
  simp [storeCommand, isBooting_of_running h.1, storeBusy, hbusy]

/-- The rows of the store commands are writes of the store command byte. -/
theorem exec_storeRow {c : Instr} {code : Byte} {n : StoreCommand}
    (hrow : (c, code, n) ∈ storeRows) (s : State) :
    exec c s = .next (busWrite 0x5D (storeCommand (.command n) (doStore n)) s) := by
  fin_cases hrow <;> rfl

theorem exec_unknownStoreCommand {code : Byte}
    (hwf : wellFormed (.unknownStoreCommand code) = true) (s : State) :
    exec (.unknownStoreCommand code) s =
      .next (busWrite 0x5D (storeCommand (.raw code) (storeReply (.raw code) .unknown 0)) s) := by
  have hcode : decodeStore code = none := Laws.FieldsInRange.unknownStoreCommand code hwf
  have hwrite : writeStoreCommand code =
      storeCommand (.raw code) (storeReply (.raw code) .unknown 0) := by
    funext s; simp only [writeStoreCommand, hcode]
  rw [← hwrite]
  rfl

/-- Settles O13: a code of no command has the answer UNKNOWN as its rule, and every store command
byte is the same write while a store command is in progress. -/
theorem commandByteRefusals : Obligations.CommandByteRefusals := by
  refine ⟨fun s code => ⟨fun hserv hwf => ?_, fun ⟨hserv, hidle⟩ hwf => ?_⟩,
    fun s hserv hbusy => ⟨fun c code n hrow => ?_, fun code hwf => ?_⟩⟩
  · rw [exec_unknownMeasurementCommand hwf hserv, measReply_rejects (by decide)]
  · rw [exec_unknownStoreCommand hwf, busWrite_storeCommand_idle _ _ hserv hidle,
      storeReply_rejects (by decide)]
  · rw [exec_storeRow hrow, busWrite_storeCommand_busy _ _ hserv hbusy]
  · rw [exec_unknownStoreCommand hwf, busWrite_storeCommand_busy _ _ hserv hbusy]

end Sys2Proof.Proofs
end

section
/-! PROOFS. The edits of a curve table (chapter 4). -/

namespace Sys2Proof.Proofs

open Sys2Proof.Machine

/-! ## Edit status records -/

theorem editReply_ok (l : EditLast) (d : Byte) (s : State) :
    editReply l .ok d s =
      { s with rcu.editStatus := { last := l, outcome := .ok, detail := d } } :=
  rfl

/-- A refusal's CMD_REJECT and its edit status record touch different state. -/
theorem editReply_refused {o : CmdOutcome} (ho : o ≠ .ok) (l : EditLast) (d : Byte) (s : State) :
    editReply l o d s =
      { raise .cmdReject s with rcu.editStatus := { last := l, outcome := o, detail := d } } := by
  simp [editReply, raiseIf, ho, raise]

/-! ## The curve that a byte names -/

theorem asCurve_eq_none {b : Byte} (h : 4 ≤ b.toNat) : asCurve b = none := by
  simp [asCurve, Nat.not_lt.2 h]

theorem asCurve_eq_some {b : Byte} {c : Fin 4} (h : b.toNat = c.val) : asCurve b = some c := by
  simp [asCurve, h]

theorem ofNat_curve {b : Byte} {c : Fin 4} (h : b.toNat = c.val) : BitVec.ofNat 8 c.val = b := by
  rw [← h, BitVec.ofNat_toNat, BitVec.setWidth_eq]

/-- The argument of a SAVE CURVE names curve `c` as a byte exactly when it does as a number. -/
theorem curveSaveClaim_iff (c : Fin 4) (s : State) :
    curveSaveClaim c s = true ↔ savingCurve c s := by
  have hbyte (b : Byte) : b = BitVec.ofNat 8 c.val ↔ b.toNat = c.val :=
    ⟨fun hb => by rw [hb, BitVec.toNat_ofNat]; omega, fun hb => (ofNat_curve hb).symm⟩
  unfold curveSaveClaim savingCurve
  cases s.nvs.road <;> simp [hbyte]

/-! ## The decisions before an edit (R79 and R80, steps 1 to 3) -/

section
variable (last : EditLast) (act : Fin 4 → State → State) (s : State)

theorem editCurve_notStopped (h : s.sc.state ≠ .stopped) :
    editCurve last act s = editReply last .locked s.rcu.select s := by
  rw [editCurve, if_pos (by simpa [isStopped] using h)]

theorem editCurve_badSelect (hstop : s.sc.state = .stopped) (hsel : 4 ≤ s.rcu.select.toNat) :
    editCurve last act s = editReply last .range s.rcu.select s := by
  simp [editCurve, isStopped, hstop, asCurve_eq_none hsel]

variable {c : Fin 4}

theorem editCurve_saving (hstop : s.sc.state = .stopped) (hsel : s.rcu.select.toNat = c.val)
    (hsave : savingCurve c s) :
    editCurve last act s = editReply last .locked s.rcu.select s := by
  simp [editCurve, isStopped, hstop, asCurve_eq_some hsel, (curveSaveClaim_iff c s).2 hsave,
    ofNat_curve hsel]

theorem editCurve_open (hstop : s.sc.state = .stopped) (hsel : s.rcu.select.toNat = c.val)
    (hfree : ¬ savingCurve c s) : editCurve last act s = act c s := by
  simp [editCurve, isStopped, hstop, asCurve_eq_some hsel, mt (curveSaveClaim_iff c s).1 hfree]

end

/-! ## The entry write (R79) -/

/-- Bytes held least significant first have the value of their concatenation. -/
theorem leValue_append (b : Byte) {w : Nat} {x : BitVec w} {l : List Byte}
    (h : leValue l = x.toNat) : leValue (b :: l) = (x ++ b).toNat := by
  rw [leValue, h, BitVec.toNat_append, ← Nat.shiftLeft_add_eq_or_of_lt b.isLt, Nat.shiftLeft_eq]
  omega

/-- Five bytes give a breakpoint by joining its three bytes of x and its two bytes of y. -/
theorem pointOf_toList (b : Vector Byte 5) :
    pointOf b.toList = { x := b[2] ++ b[1] ++ b[0], y := b[4] ++ b[3] } := by
  have hbytes : b.toList = [b[0], b[1], b[2], b[3], b[4]] :=
    List.ext_getElem (by simp) fun i hi _ => by
      have : i < 5 := by simpa using hi
      interval_cases i <;> simp
  have hone (a : Byte) : leValue [a] = a.toNat := rfl
  have hx : leValue [b[0], b[1], b[2]] = (b[2] ++ b[1] ++ b[0]).toNat :=
    leValue_append _ (leValue_append _ (hone _))
  have hy : leValue [b[3], b[4]] = (b[4] ++ b[3]).toNat := leValue_append _ (hone _)
  rw [hbytes]
  change Breakpoint.mk (BitVec.ofNat 24 (leValue [b[0], b[1], b[2]]))
    (BitVec.ofNat 16 (leValue [b[3], b[4]])) = _
  rw [hx, hy]
  simp only [BitVec.ofNat_toNat, BitVec.setWidth_eq]

/-- The state as the entry write judges it: the last byte of the entry has been stored. -/
def entryStored (v : Byte) (s : State) : State :=
  { s with rcu.entryStage := s.rcu.entryStage.set 4 v }

theorem exec_entryWrite {s : State} (v : Byte) (h : inService 0x33 s) :
    exec (.entryWrite v) s =
      .next (portWrote 0x33 (editCurve .entryWrite storeEntry (entryStored v s))) :=
  congrArg Host.Outcome.next (busWrite_of_inService _ h)

theorem storeEntry_badIndex (c : Fin 4) (s : State) (h : 24 ≤ s.rcu.index.toNat) :
    storeEntry c s = editReply .entryWrite .range s.rcu.index s := by
  rw [storeEntry, dif_neg (Nat.not_lt.2 h)]

theorem storeEntry_stored (s : State) {c : Fin 4} {i : Fin 24}
    (hsel : s.rcu.select.toNat = c.val) (hidx : s.rcu.index.toNat = i.val) :
    storeEntry c s =
      editReply .entryWrite .ok s.rcu.select
        (setCurve c
          { s.rcu.curves[c] with
            points := s.rcu.curves[c].points.set i (pointOf s.rcu.entryStage.toList)
            valid := false } s) := by
  simp [storeEntry, hidx, ofNat_curve hsel]

/-! ## The count write (R80) -/

/-- The state as the count write judges it: the count byte has been stored. -/
def countStored (v : Byte) (s : State) : State := { s with rcu.countStage := v }

theorem exec_countWrite {s : State} (v : Byte) (h : inService 0x34 s) :
    exec (.countWrite v) s =
      .next (portWrote 0x34 (editCurve .countWrite storeCount (countStored v s))) :=
  congrArg Host.Outcome.next (busWrite_of_inService _ h)

theorem storeCount_badCount (c : Fin 4) (s : State) (h : 24 < s.rcu.countStage.toNat) :
    storeCount c s = editReply .countWrite .range s.rcu.countStage s := by
  rw [storeCount, if_neg (Nat.not_le.2 h)]

theorem storeCount_stored (s : State) {c : Fin 4} (hsel : s.rcu.select.toNat = c.val)
    (h : s.rcu.countStage.toNat ≤ 24) :
    storeCount c s =
      editReply .countWrite .ok s.rcu.select
        (setCurve c
          { s.rcu.curves[c] with count := s.rcu.countStage.toNat, valid := false } s) := by
  rw [storeCount, if_pos h, ofNat_curve hsel]

/-- Settles O33: both writes pass the decisions of `editCurve` on the state with the byte stored, and
then store or refuse by the index or by the count. -/
theorem curveEdits : Obligations.CurveEdits := by
  intro s v five entry count bad
  refine ⟨fun hserv => ?_, fun hserv => ?_⟩
  · rw [exec_entryWrite v hserv]
    refine ⟨fun hrun => ?_, fun hstop hsel => ?_,
      fun c hstop hsel => ⟨fun hsave => ?_, fun hfree => ⟨fun hidx => ?_, fun i hidx => ?_⟩⟩⟩
    · rw [editCurve_notStopped _ _ (entryStored v s) hrun, editReply_refused (by decide)]; rfl
    · rw [editCurve_badSelect _ _ (entryStored v s) hstop hsel, editReply_refused (by decide)]; rfl
    · rw [editCurve_saving _ _ (entryStored v s) hstop hsel hsave,
        editReply_refused (by decide)]
      rfl
    · rw [editCurve_open _ _ (entryStored v s) hstop hsel hfree,
        storeEntry_badIndex c (entryStored v s) hidx, editReply_refused (by decide)]
      rfl
    · rw [editCurve_open _ _ (entryStored v s) hstop hsel hfree,
        storeEntry_stored (entryStored v s) hsel hidx, editReply_ok, pointOf_toList]
      rfl
  · rw [exec_countWrite v hserv]
    refine ⟨fun hrun => ?_, fun hstop hsel => ?_,
      fun c hstop hsel => ⟨fun hsave => ?_, fun hfree => ⟨fun hcount => ?_, fun hcount => ?_⟩⟩⟩
    · rw [editCurve_notStopped _ _ (countStored v s) hrun, editReply_refused (by decide)]; rfl
    · rw [editCurve_badSelect _ _ (countStored v s) hstop hsel, editReply_refused (by decide)]; rfl
    · rw [editCurve_saving _ _ (countStored v s) hstop hsel hsave,
        editReply_refused (by decide)]
      rfl
    · rw [editCurve_open _ _ (countStored v s) hstop hsel hfree,
        storeCount_badCount c (countStored v s) hcount, editReply_refused (by decide)]
      rfl
    · rw [editCurve_open _ _ (countStored v s) hstop hsel hfree,
        storeCount_stored (countStored v s) hsel hcount, editReply_ok]
      rfl

end Sys2Proof.Proofs
end

section
/-! PROOFS. Ratios and the values that curves give them (chapter 4). -/

namespace Sys2Proof.Proofs

open Sys2Proof.Machine

/-! ## The ratio of a pair (R72 to R75) -/

theorem quotient_eq {j k : PeriodSlot} (h : 1 ≤ j.osc * k.clock) :
    quotient j k = (j.clock * k.osc * 65536) / (j.osc * k.clock) := by
  rw [quotient, if_neg (Nat.one_le_iff_ne_zero.1 h)]
  rfl

theorem saturate_eq (q : Nat) : saturate q = (min q 16777215, decide (16777215 < q)) := by
  unfold saturate Config.ratioMax
  split
  · next h => rw [min_eq_right h.le, decide_eq_true h]
  · next h => rw [min_eq_left (Nat.not_lt.1 h), decide_eq_false h]

section
variable {s : State} {j k : Fin 16}

theorem formRatio_unpaired (h : s.plan.entries[j].pair = none) :
    formRatio j s = ⟨none, none, false, false, false, false⟩ := by
  simp only [formRatio, h]

theorem formRatio_invalid (h : s.plan.entries[j].pair = some k)
    (hbad : s.rcu.slots[j].valid = false ∨ s.rcu.slots[k].valid = false) :
    formRatio j s = ⟨none, none, false, false, false, true⟩ := by
  rcases hbad with hj | hk
  · simp only [formRatio, h, hj, Bool.false_and, Bool.false_eq_true, if_false]
  · simp only [formRatio, h, hk, Bool.and_false, Bool.false_eq_true, if_false]

theorem formRatio_uncurved (h : s.plan.entries[j].pair = some k)
    (hj : s.rcu.slots[j].valid = true) (hk : s.rcu.slots[k].valid = true)
    (hcurve : s.plan.entries[j].curve = none) :
    formRatio j s =
      let q := saturate (quotient s.rcu.slots[j] s.rcu.slots[k])
      ⟨some q.1, none, q.2, false, false, false⟩ := by
  simp only [formRatio, h, hj, hk, hcurve, Bool.and_self, if_true]

theorem formRatio_curved {c : Fin 4} (h : s.plan.entries[j].pair = some k)
    (hj : s.rcu.slots[j].valid = true) (hk : s.rcu.slots[k].valid = true)
    (hcurve : s.plan.entries[j].curve = some c) :
    formRatio j s =
      let q := saturate (quotient s.rcu.slots[j] s.rcu.slots[k])
      let p := placeRatio q.1 (activePoints s.rcu.curves[c])
      ⟨some q.1, p.value, q.2, p.clampLow, p.clampHigh, false⟩ := by
  simp only [formRatio, h, hj, hk, hcurve, Bool.and_self, if_true]

/-- A pair of valid slots has a ratio of the 8.16 form, whatever quotient is taken at denominator 0. -/
theorem formRatio_ratio (h : s.plan.entries[j].pair = some k)
    (hj : s.rcu.slots[j].valid = true) (hk : s.rcu.slots[k].valid = true) :
    ∃ r, (formRatio j s).ratio = some r ∧ r ≤ 16777215 ∧
      (formRatio j s).pairInvalid = false := by
  have hmax (q : Nat) : (saturate q).1 ≤ 16777215 := by
    rw [saturate_eq]
    exact min_le_right _ _
  cases hcurve : s.plan.entries[j].curve with
  | none =>
    rw [formRatio_uncurved h hj hk hcurve]
    exact ⟨_, rfl, hmax _, rfl⟩
  | some c =>
    rw [formRatio_curved h hj hk hcurve]
    exact ⟨_, rfl, hmax _, rfl⟩

end

/-! ## The commit check (R77, R84) -/

/-- The x values of a list of breakpoints strictly increase (R77). -/
def Rises (l : List Breakpoint) : Prop := l.Pairwise fun a b => a.x.toNat < b.x.toNat

/-- It is enough to compare neighbours. -/
theorem rises_cons_cons {a b : Breakpoint} {l : List Breakpoint} :
    Rises (a :: b :: l) ↔ a.x.toNat < b.x.toNat ∧ Rises (b :: l) := by
  simp only [Rises, ← List.isChain_iff_pairwise, List.isChain_cons_cons]

theorem firstNotRising_eq_none (l : List Breakpoint) (i : Nat) :
    firstNotRising i l = none ↔ Rises l := by
  induction i, l using firstNotRising.induct with
  | case1 i a b rest hle =>
    rw [firstNotRising, if_pos hle, rises_cons_cons]
    exact iff_of_false (by simp) fun ⟨hlt, _⟩ => Nat.not_lt.2 hle hlt
  | case2 i a b rest hlt ih =>
    rw [firstNotRising, if_neg hlt, ih, rises_cons_cons, and_iff_right (Nat.not_le.1 hlt)]
  | case3 l i hshort =>
    obtain _ | ⟨a, _ | ⟨b, rest⟩⟩ := l
    · exact iff_of_true rfl List.Pairwise.nil
    · exact iff_of_true rfl (List.pairwise_singleton _ a)
    · exact (hshort a b rest rfl).elim

theorem activePoints_length {c : Curve} (h : c.count ≤ 24) :
    (activePoints c).length = c.count := by
  simp [activePoints, h]

theorem activePoints_getElem {c : Curve} {i : Nat} (h : i < (activePoints c).length) :
    (activePoints c)[i] = c.points[i]'(by simp [activePoints] at h; omega) := by
  simp [activePoints]

/-- The order of R77, read off the list of the active breakpoints. -/
theorem rises_activePoints {c : Curve} (h : c.count ≤ 24) : Rises (activePoints c) ↔ xRise c := by
  rw [Rises, List.pairwise_iff_getElem]
  simp only [activePoints_getElem, activePoints_length h]
  exact ⟨fun hrise i j hij hj => hrise i j (by omega) hj hij,
    fun hrise i j _ hj hij => hrise ⟨i, by omega⟩ ⟨j, by omega⟩ hij hj⟩

/-- A curve passes its commit check when its count is 2 to 24 and its x values rise. -/
theorem commitCheck_eq_none (c : Curve) :
    commitCheck c = none ↔ 2 ≤ c.count ∧ c.count ≤ 24 ∧ xRise c := by
  by_cases hcount : c.count < 2 ∨ 24 < c.count
  · rw [commitCheck, if_pos hcount]
    exact iff_of_false (by simp) fun ⟨hlow, hhigh, _⟩ => by omega
  · have hlow : 2 ≤ c.count := by omega
    have hhigh : c.count ≤ 24 := by omega
    rw [commitCheck, if_neg hcount, Option.map_eq_none_iff, firstNotRising_eq_none,
      rises_activePoints hhigh, and_iff_right hlow, and_iff_right hhigh]

/-- The x values of a curve that passes its commit check do not fall back. -/
theorem x_mono_of_commitCheck {c : Curve} (hpass : commitCheck c = none) {i j : Fin 24} (hij : i ≤ j)
    (hj : j.val < c.count) : c.points[i].x.toNat ≤ c.points[j].x.toNat := by
  obtain ⟨_, _, hrise⟩ := (commitCheck_eq_none c).1 hpass
  rcases hij.eq_or_lt with rfl | hlt
  · exact le_rfl
  · exact (hrise i j hlt hj).le

/-- A curve that passes its commit check has a last active breakpoint. -/
theorem exists_last_of_commitCheck {c : Curve} (hpass : commitCheck c = none) :
    ∃ l : Fin 24, l.val + 1 = c.count := by
  obtain ⟨hlow, hhigh, _⟩ := (commitCheck_eq_none c).1 hpass
  exact ⟨⟨c.count - 1, by omega⟩, Nat.sub_add_cancel (by omega)⟩

/-! ## The place of a ratio on a curve (R85, R86) -/

/-- With rising x values the first segment that holds the ratio is the only one. -/
theorem inSegments_eq_some {l : List Breakpoint} {x i : Nat} (hrise : Rises l)
    (hi : i + 1 < l.length) (hlow : l[i].x.toNat ≤ x) (hhigh : x < l[i + 1].x.toNat) :
    inSegments x l = some (interpolate l[i] l[i + 1] x) := by
  induction i generalizing l with
  | zero =>
    obtain _ | ⟨a, _ | ⟨b, rest⟩⟩ := l
    · simp at hi
    · simp at hi
    · exact if_pos ⟨hlow, hhigh⟩
  | succ i ih =>
    obtain _ | ⟨a, _ | ⟨b, rest⟩⟩ := l
    · simp at hi
    · simp at hi
    · have htail : Rises (b :: rest) := (rises_cons_cons.1 hrise).2
      have hb : b.x.toNat ≤ x := by
        cases i with
        | zero => exact hlow
        | succ n =>
          have hrest : n < rest.length := by simp at hi; omega
          exact ((List.pairwise_cons.1 htail).1 _ (List.getElem_mem hrest)).le.trans hlow
      rw [inSegments, if_neg fun hheld => Nat.not_lt.2 hb hheld.2]
      exact ih htail (by simpa using hi) hlow hhigh

section
variable {c : Curve} {l : Fin 24} {x : Nat}

theorem activePoints_head? (hlow : 2 ≤ c.count) (hhigh : c.count ≤ 24) :
    (activePoints c).head? = some c.points[0] := by
  have hlen := activePoints_length hhigh
  rw [List.head?_eq_getElem?, List.getElem?_eq_getElem (by omega), activePoints_getElem]

theorem activePoints_getLast? (hhigh : c.count ≤ 24) (hl : l.val + 1 = c.count) :
    (activePoints c).getLast? = some c.points[l] := by
  have hlen := activePoints_length hhigh
  have hidx : (activePoints c).length - 1 = l.val := by omega
  rw [List.getLast?_eq_getElem?, hidx, List.getElem?_eq_getElem (by omega), activePoints_getElem]
  rfl

/-- On a curve that passes its commit check a ratio is placed between breakpoint 0 and the last active
one. -/
theorem placeRatio_of_commitCheck (hpass : commitCheck c = none) (hl : l.val + 1 = c.count) :
    placeRatio x (activePoints c) =
      if x < c.points[0].x.toNat then ⟨some c.points[0].y.toInt, true, false⟩
      else if c.points[l].x.toNat < x then ⟨some c.points[l].y.toInt, false, true⟩
      else if x = c.points[l].x.toNat then ⟨some c.points[l].y.toInt, false, false⟩
      else ⟨inSegments x (activePoints c), false, false⟩ := by
  obtain ⟨hlow, hhigh, _⟩ := (commitCheck_eq_none c).1 hpass
  simp only [placeRatio, activePoints_head? hlow hhigh, activePoints_getLast? hhigh hl]

theorem placeRatio_below (hpass : commitCheck c = none) (hx : x < c.points[0].x.toNat) :
    placeRatio x (activePoints c) = ⟨some c.points[0].y.toInt, true, false⟩ := by
  obtain ⟨l, hl⟩ := exists_last_of_commitCheck hpass
  rw [placeRatio_of_commitCheck hpass hl, if_pos hx]

theorem placeRatio_above (hpass : commitCheck c = none) (hl : l.val + 1 = c.count)
    (hx : c.points[l].x.toNat < x) :
    placeRatio x (activePoints c) = ⟨some c.points[l].y.toInt, false, true⟩ := by
  have hfirst : c.points[0].x.toNat ≤ c.points[l].x.toNat :=
    x_mono_of_commitCheck hpass (Fin.zero_le l) (by omega)
  rw [placeRatio_of_commitCheck hpass hl, if_neg (by omega), if_pos hx]

theorem placeRatio_last (hpass : commitCheck c = none) (hl : l.val + 1 = c.count)
    (hx : x = c.points[l].x.toNat) :
    placeRatio x (activePoints c) = ⟨some c.points[l].y.toInt, false, false⟩ := by
  have hfirst : c.points[0].x.toNat ≤ c.points[l].x.toNat :=
    x_mono_of_commitCheck hpass (Fin.zero_le l) (by omega)
  rw [placeRatio_of_commitCheck hpass hl, if_neg (by omega), if_neg (by omega), if_pos hx]

section
variable {i k : Fin 24} (hpass : commitCheck c = none) (hk : k.val = i.val + 1)
  (hcount : k.val < c.count) (hlow : c.points[i].x.toNat ≤ x) (hhigh : x < c.points[k].x.toNat)
include hpass hk hcount hlow hhigh

theorem inSegments_activePoints :
    inSegments x (activePoints c) = some (interpolate c.points[i] c.points[k] x) := by
  obtain ⟨_, hmax, hrise⟩ := (commitCheck_eq_none c).1 hpass
  have hi : i.val + 1 < (activePoints c).length := by
    rw [activePoints_length hmax]
    omega
  obtain ⟨k, _⟩ := k
  obtain rfl : k = i.val + 1 := hk
  rw [inSegments_eq_some ((rises_activePoints hmax).2 hrise) hi
    (by rwa [activePoints_getElem]) (by rwa [activePoints_getElem]),
    activePoints_getElem, activePoints_getElem]
  rfl

theorem placeRatio_between :
    placeRatio x (activePoints c) =
      ⟨some (interpolate c.points[i] c.points[k] x), false, false⟩ := by
  obtain ⟨l, hl⟩ := exists_last_of_commitCheck hpass
  have hfirst : c.points[0].x.toNat ≤ c.points[i].x.toNat :=
    x_mono_of_commitCheck hpass (Fin.zero_le i) (by omega)
  have hlast : c.points[k].x.toNat ≤ c.points[l].x.toNat :=
    x_mono_of_commitCheck hpass (Fin.le_def.2 (by omega)) (by omega)
  rw [placeRatio_of_commitCheck hpass hl, if_neg (by omega), if_neg (by omega), if_neg (by omega),
    inSegments_activePoints hpass hk hcount hlow hhigh]

end

end

/-- Settles O45: with a denominator of at least 1 the model's quotient is the one stated, and the
check that a curve has passed orders the breakpoints that the four places are read off. -/
theorem ratioAndValue : Obligations.RatioAndValue := by
  constructor
  · intro s j e own
    refine ⟨formRatio_unpaired, fun k hpair => ?_⟩
    intro other q
    refine ⟨formRatio_invalid hpair, formRatio_ratio hpair, fun hown hother hden hcurve => ?_,
      fun c hown hother hden hcurve => ?_⟩
    · rw [formRatio_uncurved hpair hown hother hcurve, quotient_eq hden, saturate_eq]
    · rw [formRatio_curved hpair hown hother hcurve, quotient_eq hden, saturate_eq]
  · intro c x hpass xs ys
    refine ⟨fun hx => placeRatio_below hpass (Int.ofNat_lt.1 hx), fun l hl => ⟨fun hx => ?_,
      fun hx => ?_⟩, fun i k hk hcount hlow hhigh => ?_⟩
    · exact placeRatio_above hpass hl (Int.ofNat_lt.1 hx)
    · exact placeRatio_last hpass hl (Int.ofNat_inj.1 hx)
    · exact placeRatio_between hpass hk hcount (Int.ofNat_le.1 hlow) (Int.ofNat_lt.1 hhigh)

end Sys2Proof.Proofs
end

section
/-! PROOFS. The class of a value, the consecutive filter and the limit changes (chapter 5). -/

namespace Sys2Proof.Proofs

open Sys2Proof.Machine

/-! ## The consecutive filter (R91) -/

section
variable {filter n : Nat} {c : LimitClass} {r : LimitRecord}

theorem countClass_agrees (h : r.state = .settled c) :
    countClass c r = { r with candidate := none, count := 0 } :=
  if_pos h

theorem countClass_advances (hstate : r.state ≠ .settled c) (hcand : r.candidate = some c) :
    countClass c r = { r with count := r.count + 1 } :=
  (if_neg hstate).trans (if_pos hcand)

theorem countClass_restarts (hstate : r.state ≠ .settled c) (hcand : r.candidate ≠ some c) :
    countClass c r = { r with candidate := some c, count := 1 } :=
  (if_neg hstate).trans (if_neg hcand)

/-- Without a candidate there is nothing to settle, whatever the filter. -/
theorem updateRecord_agrees (h : r.state = .settled c) :
    updateRecord filter c r = { r with candidate := none, count := 0 } := by
  delta updateRecord
  rw [countClass_agrees h]

/-- The filter reads the count that `countClass` leaves beside the candidate. -/
theorem updateRecord_of_candidate {u : LimitRecord} (h : countClass c r = u)
    (hcand : u.candidate = some c) :
    updateRecord filter c r =
      if u.count = filter then { state := .settled c, candidate := none, count := 0 } else u := by
  delta updateRecord
  dsimp only
  rw [h, hcand]

end

/-! ## Limit changes (R93) -/

theorem changeRaises_same (st : LimitState) : changeRaises st st = false := by
  cases st with
  | unknown => rfl
  | settled c => cases c <;> rfl

theorem changeRaises_settled {before : LimitState} {c : LimitClass} (h : before ≠ .settled c) :
    changeRaises before (.settled c) =
      !(decide (before = .unknown) && decide (c = .inside)) := by
  delta changeRaises
  rw [decide_eq_true h, Bool.true_and]
  cases c <;> rfl

/-! ## The Limit Watch on one result (R89, R92) -/

section
variable {s : State} {j : Fin 16} {v : Int}

theorem watchLimit_valueless (s : State) (j : Fin 16) :
    watchLimit j none s = (s, ⟨none, false⟩) := by
  delta watchLimit
  dsimp only
  cases s.plan.entries[j].limits <;> rfl

theorem watchLimit_limitsOff (h : s.plan.entries[j].limits = false) :
    watchLimit j (some v) s = (s, ⟨none, false⟩) := by
  delta watchLimit
  dsimp only
  rw [h]

theorem watchLimit_limitsOn {u : LimitRecord} (hon : s.plan.entries[j].limits = true)
    (hu : updateRecord s.plan.entries[j].filter
      (classify s.plan.entries[j].low s.plan.entries[j].high v) s.lw.records[j] = u) :
    watchLimit j (some v) s =
      (raiseIf (changeRaises s.lw.records[j].state u.state) .limit
        { s with lw.records := s.lw.records.set j u },
       ⟨some u.state, decide (s.lw.records[j].state ≠ u.state)⟩) := by
  subst hu
  delta watchLimit
  dsimp only
  rw [hon]

/-- An update that keeps the state is no limit change. -/
theorem watchLimit_unchanged {u : LimitRecord} (hon : s.plan.entries[j].limits = true)
    (hu : updateRecord s.plan.entries[j].filter
      (classify s.plan.entries[j].low s.plan.entries[j].high v) s.lw.records[j] = u)
    (hkeeps : u.state = s.lw.records[j].state) :
    watchLimit j (some v) s =
      (raiseIf false .limit { s with lw.records := s.lw.records.set j u },
       ⟨some u.state, decide (s.lw.records[j].state ≠ u.state)⟩) := by
  rw [watchLimit_limitsOn hon hu, hkeeps, changeRaises_same]

end

/-- Settles O46: the three lines of the filter's table say what the count becomes, and the count
against the filter says whether the class settles, which is the only way the state changes. -/
theorem limitUpdate : Obligations.LimitUpdate := by
  intro s j v e r cls acted settles
  have hsettles (hon : e.limits = true) (hstate : r.state ≠ .settled cls)
      (hu : updateRecord e.filter cls r = { state := .settled cls, candidate := none, count := 0 }) :
      settles :=
    (watchLimit_limitsOn hon hu).trans (by rw [changeRaises_settled hstate])
  refine ⟨watchLimit_valueless s j, watchLimit_limitsOff, fun hon hstate => ?_,
    fun hon hstate hcand => ?_, fun hon hstate hcand => ?_⟩
  · exact watchLimit_unchanged hon (updateRecord_agrees hstate) rfl
  · have hu := updateRecord_of_candidate (filter := e.filter)
      (countClass_advances hstate hcand) hcand
    exact ⟨fun hn => hsettles hon hstate (hu.trans (if_pos hn)),
      fun hn => watchLimit_unchanged hon (hu.trans (if_neg hn)) rfl⟩
  · have hu := updateRecord_of_candidate (filter := e.filter)
      (countClass_restarts hstate hcand) rfl
    exact ⟨fun hone => hsettles hon hstate (hu.trans (if_pos hone.symm)),
      fun hone => watchLimit_unchanged hon (hu.trans (if_neg (Ne.symm hone))) rfl⟩

end Sys2Proof.Proofs
end

section
/-! PROOFS. The offer of a record and the ATN line (chapters 6 and 7). -/

namespace Sys2Proof.Proofs

open Sys2Proof.Machine

/-! ## The offer of a record (R104, R105, R112) -/

/-- The accepted record counts for the watermark condition that its acceptance re-evaluates. -/
theorem acceptRecord_eq (r : Record) (s : State) :
    acceptRecord r s =
      raiseIf (decide (s.rq.watermark ≤ s.rq.records.length + 1)) .watermark
        { s with
          rq.records := s.rq.records ++ [withGap s.rq.gapPending r]
          rq.gapPending := false } := by
  have hlength : (s.rq.records ++ [withGap s.rq.gapPending r]).length = s.rq.records.length + 1 :=
    List.length_append
  rw [← hlength]
  rfl

theorem offerRecord_accepts {s : State} (r : Record) (h : s.rq.records.length < 32) :
    offerRecord r s =
      raiseIf (decide (s.rq.watermark ≤ s.rq.records.length + 1)) .watermark
        { s with
          rq.records := s.rq.records ++ [withGap s.rq.gapPending r]
          rq.gapPending := false } :=
  (if_pos h).trans (acceptRecord_eq r s)

theorem offerRecord_discards {s : State} (r : Record) (h : 32 ≤ s.rq.records.length) :
    offerRecord r s = raise .queueDrop { s with rq.gapPending := true } :=
  if_neg (Nat.not_lt.2 h)

/-! ## The ATN line (R126) -/

/-- Every bit of an event group is the place of a flag. -/
theorem exists_flagPos_eq : ∀ k < 11, ∃ f, flagPos f = k
  | 0, _ => ⟨.scanEnd, rfl⟩
  | 1, _ => ⟨.watermark, rfl⟩
  | 2, _ => ⟨.queueDrop, rfl⟩
  | 3, _ => ⟨.limit, rfl⟩
  | 4, _ => ⟨.overrun, rfl⟩
  | 5, _ => ⟨.convFault, rfl⟩
  | 6, _ => ⟨.cmdReject, rfl⟩
  | 7, _ => ⟨.storeDone, rfl⟩
  | 8, _ => ⟨.archiveLost, rfl⟩
  | 9, _ => ⟨.archiveFull, rfl⟩
  | 10, _ => ⟨.bootFault, rfl⟩
  | k + 11, h => absurd h (by omega)

/-- An event group is nonzero exactly when it holds some flag's bit. -/
theorem eventGroup_ne_zero_iff (w : BitVec 11) :
    w ≠ 0 ↔ ∃ f, w.getLsbD (flagPos f) = true := by
  constructor
  · contrapose!
    intro hclear
    refine BitVec.eq_of_getLsbD_eq fun k hk => ?_
    obtain ⟨f, rfl⟩ := exists_flagPos_eq k hk
    simpa using hclear f
  · rintro ⟨f, hset⟩ rfl
    simp at hset

theorem atnAsserted_iff (s : State) :
    atnAsserted s = true ↔
      ∃ f, flagSet s f = true ∧ s.ev.enable.getLsbD (flagPos f) = true := by
  simp only [atnAsserted, decide_eq_true_eq, eventGroup_ne_zero_iff, BitVec.getLsbD_and,
    Bool.and_eq_true, flagSet]

/-- Settles O47: the queue's level decides between acceptance and discard, for either kind of
record; the ATN line reads the flags and the enable mask place by place. -/
theorem queueOfferAndAttention : Obligations.QueueOfferAndAttention := by
  intro s
  exact ⟨fun _ _ _ _ hroom => offerRecord_accepts _ hroom,
    fun _ _ _ _ _ _ _ hroom => offerRecord_accepts _ hroom,
    fun r hfull => offerRecord_discards r hfull,
    atnAsserted_iff s⟩

end Sys2Proof.Proofs
end

section
/-! PROOFS. Store commands that find the store free, and LOAD ROW (chapter 8). -/

namespace Sys2Proof.Proofs

open Sys2Proof.Machine

/-! ## A store command in a free store -/

/-- A store command that finds the store free is decided by its own rule. -/
theorem exec_storeRow_free {c : Instr} {code : Byte} {n : StoreCommand} {s : State}
    (hrow : (c, code, n) ∈ storeRows) (h : storeFree s) :
    exec c s = .next (portWrote 0x5D (doStore n s)) := by
  obtain ⟨hserv, hidle⟩ := h
  rw [exec_storeRow hrow, busWrite_storeCommand_idle _ _ hserv hidle]

theorem storeAnswer_ok (c : StoreCommand) (d : Byte) (s : State) :
    storeAnswer c .ok d s =
      { s with nvs.status := { phase := .idle, last := .command c, outcome := .ok, detail := d } } :=
  rfl

/-- A refusal's status record and its CMD_REJECT touch different state, so either may be written
first. -/
theorem storeAnswer_refused {o : CmdOutcome} (ho : o ≠ .ok) (c : StoreCommand) (d : Byte)
    (s : State) :
    storeAnswer c o d s =
      { raise .cmdReject s with
        nvs.status := { phase := .idle, last := .command c, outcome := o, detail := d } } :=
  storeReply_rejects ho _ d s

/-! ## The row that a byte names -/

theorem asRow_eq_none {b : Byte} (h : 64 ≤ b.toNat) : asRow b = none := dif_neg (Nat.not_lt.2 h)

theorem asRow_eq_some {b : Byte} {r : Fin 64} (h : b.toNat = r.val) : asRow b = some r := by
  simp [asRow, h]

/-! ## LOAD ROW (R134) -/

section
variable {s : State}

theorem doLoadRow_badRow (h : asRow s.nvs.argument = none) :
    doLoadRow s = storeAnswer .loadRow .range s.nvs.argument s := by
  simp only [doLoadRow, storeArgument, h]

theorem doLoadRow_copies {r : Fin 64} (h : asRow s.nvs.argument = some r) :
    doLoadRow s =
      storeAnswer .loadRow .ok s.nvs.argument
        { s with
          nvs.page.data := rowImageOf s.nvs r
          nvs.page.loaded := Vector.replicate 64 false } := by
  simp only [doLoadRow, storeArgument, h]

end

/-- Settles O16: the argument either names no row, and the command is refused, or names the row whose
64 bytes are copied. -/
theorem loadRowCommand : Obligations.LoadRowCommand := by
  intro s hfree
  have hexec : exec .loadRow s = .next (portWrote 0x5D (doLoadRow s)) :=
    exec_storeRow_free (code := 0x21) (n := .loadRow) (by decide) hfree
  refine ⟨fun hbig => ?_, fun r hr => ?_⟩
  · rw [hexec, doLoadRow_badRow (asRow_eq_none hbig), storeAnswer_refused (by decide)]
  · rw [hexec, doLoadRow_copies (asRow_eq_some hr), storeAnswer_ok]
    rfl

end Sys2Proof.Proofs
end
